-- ==== Sys2Proof/Word.lean ====
section
/-! DEFINITION. The byte of the command link and of the station links, and text made of them. -/

namespace Sys2Proof

/-- One byte as software and stations see it (spec/11_command_link_and_conditions.md, R197). -/
abbrev Byte := BitVec 8

/-- A wafer-id, strip-id or station identity: character codes in order (R197). -/
abbrev Text := List Byte

end Sys2Proof
end

