-- ==== Sys2Proof/Syntax.lean ====
section
/-! DEFINITION. The commands of the block: one constructor per row of spec/opcode_table.json, with the row's operands. -/
namespace Sys2Proof

/-- The two bond lanes (spec/06_bond_lanes.md). -/
inductive Lane where
  | one | two
  deriving DecidableEq, Repr

/-- The two wafer tables (spec/03_wafer_tables_and_site_selection.md, 3.1). -/
inductive Table where
  | a | b
  deriving DecidableEq, Repr

/-- The six station links, in the order of spec/10_station_links.md. -/
inductive Link where
  | ta | tb | pk | b1 | b2 | ix
  deriving DecidableEq, Repr

/-- One step of the part. A host command carries its tag and its payload bytes, laid out as R197 says
(notes/assumptions/1.md); a station report carries the link it came in on, its order number and its
parameter bytes (R175, R176); a timer's expiry names the link or lane of the timer. -/
inductive Instr where
  /-- POWER_ON (R196): The supply comes up; every block takes its after-reset values, the straps are sampled and STARTED is sent with cause POWER. -/
  | powerOn (crs1 crs0 : Bool)
  /-- RSTN (R196): The active-low reset pin is asserted; the part resets as at power-on and STARTED is sent with cause PIN. -/
  | rstn (crs1 crs0 : Bool)
  /-- FRAME_RECEIVED (R187): A command link frame completes; if its check is good and the queue has room it joins the tail of the receive queue. -/
  | frameReceived (kind tag : Byte) (payload : List Byte) (check : BitVec 16)
  /-- DISCARD_LENGTH (R187): A frame whose second length byte gives a length below 2 or above 242 is discarded at once with cause LENGTH. -/
  | discardLength (length : BitVec 16)
  /-- DISCARD_GAP (R187): More than 20 byte-times pass between two bytes of a frame, and the frame is discarded with cause GAP. -/
  | discardGap (cycles : Nat)
  /-- RECORD_SENT (R190): A record finishes going out on CTX; the next waiting record begins, and once a reply is out the next queued command may be taken. -/
  | recordSent
  /-- UNKNOWN_KIND_COMMAND (R189): A command whose kind is not in the index is refused with UNKNOWN-KIND and changes nothing. -/
  | unknownKindCommand (kind tag : Byte) (payload : List Byte)
  /-- MAP_OPEN (R6): Opens an EMPTY slot for loading with its die-type, grid and optional expected wafer-id. -/
  | mapOpen (tag : Byte) (payload : List Byte)
  /-- MAP_ROWS (R7): Delivers one or more whole rows of runs to a LOADING slot, each row replacing any earlier delivery of it. -/
  | mapRows (tag : Byte) (payload : List Byte)
  /-- MAP_CLOSE (R9): Seals a LOADING slot when every row is delivered and the PRESENT count matches, making it READY. -/
  | mapClose (tag : Byte) (payload : List Byte)
  /-- MAP_DROP (R10): Discards the map of a LOADING or READY slot, refused with BUSY while a token names one of its sites. -/
  | mapDrop (tag : Byte) (payload : List Byte)
  /-- MAP_MARK (R12): Applies ADD, REMOVE, TOGGLE or ASSIGN to the marks of a rectangle of sites and clears the slot's exhausted flag. -/
  | mapMark (tag : Byte) (payload : List Byte)
  /-- MAP_READ (R14): Returns a row from a start column as runs of state, bin and marks, with the next column. -/
  | mapRead (tag : Byte) (payload : List Byte)
  /-- MAP_SUMMARY (R15): Returns a slot's record, counts and bound table without changing anything. -/
  | mapSummary (tag : Byte) (payload : List Byte)
  /-- SET_BINS (R26): Writes class entries into a bin bank, the active bank only in STOPPED or HELD and never entry 63. -/
  | setBins (tag : Byte) (payload : List Byte)
  /-- USE_BANK (R27): Makes a bank active, clears every exhausted flag and is a selection change. -/
  | useBank (tag : Byte) (payload : List Byte)
  /-- SET_GROUPS (R28): Writes match groups into the class-group table, clears every exhausted flag and is a selection change. -/
  | setGroups (tag : Byte) (payload : List Byte)
  /-- READ_CLASSES (R29): Returns a bank's 64 entries, the active bank number and the class-group table. -/
  | readClasses (tag : Byte) (payload : List Byte)
  /-- STAGE_RECIPE (R33): Stages a full recipe for a die type, or withdraws the staged one. -/
  | stageRecipe (tag : Byte) (payload : List Byte)
  /-- PROMOTE (R36): Makes a promotion at once when the cell is STOPPED or HELD with strip state NONE. -/
  | promote (tag : Byte) (payload : List Byte)
  /-- READ_RECIPE (R37): Returns a die type's active and staged recipes, its generation and both lanes' cycle indexes. -/
  | readRecipe (tag : Byte) (payload : List Byte)
  /-- MOUNT (R45): Binds a READY slot to an EMPTY table with its link UP, making them MOUNTING and LOADING, and sends LOAD-WAFER. -/
  | mount (tag : Byte) (payload : List Byte)
  /-- DISMOUNT (R49): Makes an OCCUPIED table's MOUNTED slot UNMOUNTING and marks its unload wanted. -/
  | dismount (tag : Byte) (payload : List Byte)
  /-- SET_WAFER_ID (R53): Sets a LOADING or READY slot's expected wafer-id and id-lock. -/
  | setWaferId (tag : Byte) (payload : List Byte)
  /-- SET_OFFSET (R54): Sets a slot's origin offset, used when STEP orders are built for its sites. -/
  | setOffset (tag : Byte) (payload : List Byte)
  /-- SET_STRIP_TYPE (R65): Loads or empties a strip type place while the cell is STOPPED or HELD. -/
  | setStripType (tag : Byte) (payload : List Byte)
  /-- STRIP_LOCK (R66): Sets or clears the strip type lock read at later arrivals. -/
  | stripLock (tag : Byte) (payload : List Byte)
  /-- READ_UNITS (R85): Returns the strip record, unit counts, next positions and up to 24 unit entries. -/
  | readUnits (tag : Byte) (payload : List Byte)
  /-- READ_TOKENS (R90): Returns the picker state, the last granted lane and every token in the pool. -/
  | readTokens (tag : Byte) (payload : List Byte)
  /-- SET_LANE (R122): Writes the settle interval, threshold and enable into the lanes of a mask. -/
  | setLane (tag : Byte) (payload : List Byte)
  /-- READ_LANE (R119): Returns a lane's record and then clears its offset-failure count. -/
  | readLane (tag : Byte) (payload : List Byte)
  /-- RESTORE_LANE (R120): Clears a lane's degraded flag and offset-failure count. -/
  | restoreLane (tag : Byte) (payload : List Byte)
  /-- SET_FORCE (R138): Writes the enable and gain of the force monitors in a mask, spoiling any open dwell. -/
  | setForce (tag : Byte) (payload : List Byte)
  /-- READ_FORCE (R133): Returns a monitor's state and figures and then clears its fresh flag. -/
  | readForce (tag : Byte) (payload : List Byte)
  /-- SET_LOG (R147): Sets the log policy, trigger and age timeout and clears the overwrite count. -/
  | setLog (tag : Byte) (payload : List Byte)
  /-- FETCH_LOG (R150): Removes and returns up to four of the oldest placement records, clears AGED and makes room. -/
  | fetchLog (tag : Byte) (payload : List Byte)
  /-- RUN (R154): Puts a STOPPED or HELD cell to RUNNING when PK, IX and the lanes allow, and loads or ejects a strip as needed. -/
  | run (tag : Byte) (payload : List Byte)
  /-- HOLD (R155): Moves a RUNNING cell to HOLDING with cause REQUEST. -/
  | hold (tag : Byte) (payload : List Byte)
  /-- STOP (R158): Moves the cell to STOPPING and replaces every outstanding die-moving order with ABORT. -/
  | stop (tag : Byte) (payload : List Byte)
  /-- SET_CELL (R160): Sets the gating and the starvation timeout while the cell is STOPPED. -/
  | setCell (tag : Byte) (payload : List Byte)
  /-- RELAX_UNIT (R164): Lifts grade matching from an unresolved unit and is a selection change. -/
  | relaxUnit (tag : Byte) (payload : List Byte)
  /-- VOID_UNIT (R165): Voids an unresolved unit, abandons its EMPTY and ALLOCATED positions and makes the destinations of its tokens absent. -/
  | voidUnit (tag : Byte) (payload : List Byte)
  /-- ENABLE_LINK (R171): Sets a DISABLED link's CRC threshold and starts it HUNTING. -/
  | enableLink (tag : Byte) (payload : List Byte)
  /-- RESET_LINK (R181): Returns a FAULT or HUNTING link to HUNTING, clears its counts and sends a 2 ms break. -/
  | resetLink (tag : Byte) (payload : List Byte)
  /-- BREAK_END (R181): The 2 ms break after RESET-LINK ends, and the first CALL is sent. -/
  | breakEnd (link : Link)
  /-- DISABLE_LINK (R182): Takes a link out of use in a STOPPED or HELD cell, ending any outstanding order under the owner's fault disposition. -/
  | disableLink (tag : Byte) (payload : List Byte)
  /-- LOCK_STATION_ID (R183): Sets or clears the identity that a link's HELLO must carry. -/
  | lockStationId (tag : Byte) (payload : List Byte)
  /-- TEST_LINK (R184): Arms the link's test countdown so that the n-th next order goes out with an inverted CRC-8. -/
  | testLink (tag : Byte) (payload : List Byte)
  /-- SET_LIMITS (R178): Sets the watchdog limit of an order kind for all links while the cell is STOPPED. -/
  | setLimits (tag : Byte) (payload : List Byte)
  /-- READ_STATION (R185): Returns a link's record and the watchdog limits, then clears its CRC and late counts. -/
  | readStation (tag : Byte) (payload : List Byte)
  /-- PING (R191): Echoes its payload in a DONE reply. -/
  | ping (tag : Byte) (payload : List Byte)
  /-- STATUS (R192): Returns a snapshot of the cell, lanes, tables, links, log, discard count and conditions. -/
  | status (tag : Byte) (payload : List Byte)
  /-- READ_CONDITION (R194): Returns the highest-priority pending condition from a start priority and clears it where its kind allows. -/
  | readCondition (tag : Byte) (payload : List Byte)
  /-- SET_NOTICES (R195): Writes the nine notice enables. -/
  | setNotices (tag : Byte) (payload : List Byte)
  /-- RESET_CELL (R196): After its DONE reply is sent, resets the part as at the RSTN pin, with STARTED cause COMMAND. -/
  | resetCell (tag : Byte) (payload : List Byte)
  /-- CALL (R172): Every 100 ms while a link is HUNTING, CALL is sent on it. -/
  | call (link : Link)
  /-- HELLO (R173): A station's HELLO is checked for kind and identity and brings a HUNTING link UP, or faults it; on an UP link it faults it. -/
  | hello (link : Link) (number : Byte) (kind : Byte) (identity : Text)
  /-- STATION_FRAME_DISCARD (R174): A station frame with a bad CRC-8 or an unknown kind is discarded and the link's CRC count advances. -/
  | stationFrameDiscard (link : Link) (number kind : Byte) (params : List Byte) (check : Byte)
  /-- STATION_FRAME_TIMEOUT (R174): A station frame not completed within 1 ms of its start byte is discarded and counted. -/
  | stationFrameTimeout (link : Link)
  /-- STATION_ERROR (R176): A STATION-ERROR against the outstanding order puts the link into FAULT and records its code. -/
  | stationError (link : Link) (number : Byte) (code : Byte)
  /-- WATCHDOG_EXPIRY (R177): A link's watchdog expires and the link enters FAULT with cause TIMEOUT. -/
  | watchdogExpiry (link : Link)
  /-- WAFER_IN (R46): WAFER-IN on a LOADING table decides the mount from the identity read: MOUNTED, or MISMATCH with UNLOAD-WAFER sent. -/
  | waferIn (link : Link) (number : Byte) (readState : Byte) (identity : Text)
  /-- WAFER_OUT (R47): WAFER-OUT ends an unload: the slot becomes READY and the table EMPTY, and MOUNT-DONE carries the table's ending. -/
  | waferOut (link : Link) (number : Byte)
  /-- UNLOAD_WAFER (R50): A table whose unload is wanted sends UNLOAD-WAFER once no picker token holds a RESERVED site of its slot and its link is free. -/
  | unloadWafer (table : Table)
  /-- ABORTED_TABLE (R51): ABORTED on a table link ends an aborted LOAD-WAFER, UNLOAD-WAFER or STEP, sending UNLOAD-WAFER or disposing of the step token. -/
  | abortedTable (table : Table) (number holds : Byte)
  /-- GRANT (R92): With the picker IDLE and a lane requesting, the arbiter chooses a lane and takes it through reservation, search and token creation. -/
  | grant
  /-- STEPPED (R96): STEPPED ends the table's STEP, and PICK is sent on PK. -/
  | stepped (link : Link) (number : Byte)
  /-- PICKED (R97): PICKED makes the site TAKEN and the nest RECEIVING, and PUT is sent. -/
  | picked (link : Link) (number : Byte)
  /-- PICK_FAIL (R98): PICK-FAIL counts an attempt and retries the PICK, or makes the site MISSED and removes the token. -/
  | pickFail (link : Link) (number : Byte)
  /-- PUT_DONE (R99): PUT-DONE moves the token to the nest, which settles, becomes READY or becomes BLOCKED, and the picker becomes IDLE. -/
  | putDone (link : Link) (number : Byte)
  /-- DROPPED (R100): DROPPED creates a DROPPED record, removes the token, empties the nest and makes the picker IDLE. -/
  | dropped (link : Link) (number : Byte)
  /-- ABORTED_PK (R103): ABORTED on PK during STOP releases the site, purges the die held, or puts it into a BLOCKED nest. -/
  | abortedPk (number holds : Byte)
  /-- PURGED_ON_PK (R104): PURGED on PK creates a PURGED record with lane none, removes the token and makes the picker IDLE. -/
  | purgedOnPk (number : Byte)
  /-- SETTLE_EXPIRY (R108): The nest's settle timer expires and the nest becomes READY. -/
  | settleExpiry (lane : Lane)
  /-- TAKE (R111): With the nest READY, the collet IDLE and the cell RUNNING or HOLDING, TAKE is sent and the collet becomes TAKING. -/
  | take (lane : Lane)
  /-- NEST_PURGE (R109): A BLOCKED nest, or a settling or ready nest while STOPPING, is purged by the IDLE collet once the link is UP. -/
  | nestPurge (lane : Lane)
  /-- TAKEN (R112): TAKEN moves the token to the collet, empties the nest, and sends BOND, or a collet PURGE when the destination is absent. -/
  | taken (link : Link) (number : Byte)
  /-- TOUCHED (R114): TOUCHED makes the collet DWELL, opens the force dwell and restarts the watchdog for the second leg. -/
  | touched (link : Link) (number : Byte)
  /-- BONDED (R116): BONDED closes the dwell, judges the placement, settles the position, creates the BONDED record and removes the token. -/
  | bonded (link : Link) (number : Byte) (dx dy rotation : BitVec 16) (vision : Byte)
  /-- PURGED (R117): PURGED on a bonder link ends a nest or collet purge, creating a PURGED record with the lane when a token was held. -/
  | purged (link : Link) (number : Byte)
  /-- ABORTED_BONDER (R128): ABORTED on a bonder link, by its abort origin and holds die, leaves the die in the nest, purges it, or records it UNKNOWN with the position UNCERTAIN. -/
  | abortedBonder (lane : Lane) (number holds : Byte)
  /-- IDLE_CONVERSION (R132): An 8 µs idle conversion completes, giving the latest sample and setting the fresh flag. -/
  | idleConversion (lane : Lane) (counts : Nat)
  /-- DWELL_CONVERSION (R135): An 8 µs dwell conversion completes and its tared reading updates dwell min, max and count. -/
  | dwellConversion (lane : Lane) (counts : Nat)
  /-- LOAD_STRIP (R68): With the strip state NONE, the cell RUNNING and IX UP and free, LOAD-STRIP is sent and the strip state becomes LOADING. -/
  | loadStrip
  /-- ARRIVED (R69): ARRIVED ends LOAD-STRIP and runs the arrival checks: type, pitch, promotion, recipes and the building of the unit table. -/
  | arrived (link : Link) (number : Byte) (stripId : Text) (code : Byte) (pitch : BitVec 16) (count : Byte) (xouts : List (Byte × Byte))
  /-- STRIP_DONE (R82): When every unit is resolved and no token exists, the strip becomes done, STRIP-DONE is raised, and it is ejected if RUNNING. -/
  | stripDone
  /-- EJECT_STRIP (R83): A done ACTIVE strip in a RUNNING cell with IX UP and free is ejected, and the strip state becomes EJECTING. -/
  | ejectStrip
  /-- EJECTED (R83): EJECTED empties the strip record and, if RUNNING, a LOAD-STRIP follows. -/
  | ejected (link : Link) (number : Byte)
  /-- ABORTED_IX (R84): ABORTED on IX during STOP ends the strip order as a fault would. -/
  | abortedIx (number holds : Byte)
  /-- ENTER_HELD (R156): A HOLDING cell with no token and no IX order becomes HELD and raises CELL-HELD with the hold cause. -/
  | enterHeld
  /-- ENTER_STOPPED (R159): A STOPPING cell with no token and no order outstanding on any link becomes STOPPED. -/
  | enterStopped
  /-- UNIT_REASSIGNMENT (R161): Under ANY, each OPEN unit of an unusable lane passes to the usable lane. -/
  | unitReassignment
  /-- STARVATION_EXPIRY (R163): A waiting lane's starvation timer expires, the lane is starved and UNIT-STARVED is raised. -/
  | starvationExpiry (lane : Lane)
  /-- AGE_TIMER_EXPIRY (R149): The log's age timer expires, the AGED cause holds and the timer stops. -/
  | ageTimerExpiry
  /-- SUPPLY_FAILS (R196): When the supply fails, a record being sent on CTX is cut off at the bit reached and the part ceases until power comes up again. -/
  | supplyFails
  deriving DecidableEq, Repr

end Sys2Proof
end

