-- ==== Sys2Proof/Decode.lean ====
section
/-! DEFINITION. The commands a table word spells: the table gives no row any bits. -/

namespace Sys2Proof

/-- spec/opcode_table.json gives bits to none of its rows, so no word spells a command. -/
def decodeTableWord (_nbits _w : Nat) : Option Instr := none

end Sys2Proof
end

