-- ==== Sys2Proof/Config.lean ====
section
/-! DEFINITION. What the part fixes by number, and the one value its manual leaves open. -/

namespace Sys2Proof.Config

/-- Whether a time left that is not a whole number of its interval's units counts the unit it stands in.
R197 gives the unit and no rounding, so nothing here says which (notes/assumptions/5.md). -/
opaque countsPartialUnit (unit left : Nat) : Bool

/-- The most records the placement log stores (R140). -/
def logCapacity : Nat := 1024

/-- The most frames the receive queue holds (R187). -/
def queueCapacity : Nat := 4

/-- The most sites of one map (R1). -/
def maxSites : Nat := 32768

/-- The most runs of one MAP-READ reply (R14). -/
def maxRuns : Nat := 48

/-- The most unit entries of one READ-UNITS reply (R85). -/
def maxUnitEntries : Nat := 24

/-- The units of time of the interval timers, in steps of 0.1 ms (notes/assumptions/4.md). -/
def ticksPerMs : Nat := 10
def ticksPer100ms : Nat := 1000

/-- The interval between CALLs, 100 ms (R172). -/
def callInterval : Nat := 1000

/-- The length of a break, 2 ms (R181). -/
def breakLength : Nat := 20

/-- CLK25 cycles in one second (Table 0-2). -/
def clockHz : Nat := 25000000

/-- The gap, in bit times, beyond which a frame is discarded: 20 byte-times of 10 bit times (R187). -/
def gapBits : Nat := 200

end Sys2Proof.Config
end

