-- ==== Sys2Proof/Machine/State.lean ====
section
/-! DEFINITION. The state of the LV-418 as plain data, its stops, and the state right after reset. -/

namespace Sys2Proof.Machine

/-! ## Small fixed families of like things -/

/-- One of four: slots, die types, match groups and strip type codes are each numbered 0 to 3. -/
inductive Quad where
  | q0 | q1 | q2 | q3
  deriving DecidableEq, Repr

abbrev SlotId := Quad
abbrev DieType := Quad
abbrev Group := Quad
abbrev TypeCode := Quad

/-- A value for each lane. -/
structure PerLane (α : Type) where
  one : α
  two : α
  deriving DecidableEq, Repr

/-- A value for each wafer table. -/
structure PerTable (α : Type) where
  a : α
  b : α
  deriving DecidableEq, Repr

/-- A value for each of four numbers. -/
structure PerQuad (α : Type) where
  q0 : α
  q1 : α
  q2 : α
  q3 : α
  deriving DecidableEq, Repr

/-- A value for each station link. -/
structure PerLink (α : Type) where
  ta : α
  tb : α
  pk : α
  b1 : α
  b2 : α
  ix : α
  deriving DecidableEq, Repr

/-! ## Map store (chapter 1) -/

/-- Slot states (Table 1-1). -/
inductive SlotState where
  | empty | loading | ready | mounting | mounted | unmounting
  deriving DecidableEq, Repr

/-- Site states (Table 1-2). -/
inductive SiteState where
  | void | present | reserved | taken | missed
  deriving DecidableEq, Repr

/-- The marks of a site (Table 1-2). -/
structure Marks where
  edge : Bool
  hold : Bool
  retest : Bool
  visual : Bool
  deriving DecidableEq, Repr

/-- Site record (Table 1-2, R2). -/
structure Site where
  state : SiteState
  bin : Nat
  marks : Marks
  attempts : Nat
  deriving DecidableEq, Repr

/-- Slot record (Table 1-1, R1). The state counts are computed from `sites` (R3, notes/assumptions/17.md). -/
structure Slot where
  state : SlotState
  dieType : DieType
  rows : Nat
  cols : Nat
  expectedId : Option Text
  waferId : Option Text
  idLock : Bool
  rowOffset : Int
  colOffset : Int
  /-- The delivered rows, ascending, each once (R8). -/
  delivered : List Nat
  floorRow : Nat
  disposal : Nat
  exhausted : Bool
  /-- The sites, row by row. -/
  sites : List (List Site)
  deriving DecidableEq, Repr

/-! ## Class tables and recipe store (chapter 2) -/

/-- The two bin banks (R24). -/
inductive Bank where
  | zero | one
  deriving DecidableEq, Repr

/-- Class tables (R24, R28): 64 entries a bank, none for REJECT; 16 groups in class order. -/
structure ClassTables where
  bank0 : List (Option Nat)
  bank1 : List (Option Nat)
  active : Bank
  groups : List Group
  deriving DecidableEq, Repr

/-- The setting of one mark in a recipe's filter (Table 2-1). -/
inductive MarkRule where
  | require | forbid | ignore
  deriving DecidableEq, Repr

/-- A recipe's mark filter (Table 2-1). -/
structure MarkFilter where
  edge : MarkRule
  hold : MarkRule
  retest : MarkRule
  visual : MarkRule
  deriving DecidableEq, Repr

/-- Recipe record (Table 2-1, R31). Bit k of `acceptance` is class k. -/
structure Recipe where
  acceptance : BitVec 16
  filter : MarkFilter
  base : Nat
  fine : Nat
  setpoint : Nat
  dwell : Nat
  windowLow : Nat
  windowHigh : Nat
  offsetLimit : Nat
  rotationLimit : Nat
  retryLimit : Nat
  deriving DecidableEq, Repr

/-- Recipe store (R32). -/
structure RecipeStore where
  active : PerQuad (Option Recipe)
  staged : PerQuad (Option Recipe)
  generation : PerQuad (BitVec 8)
  cycle : PerLane (PerQuad (BitVec 5))
  deriving DecidableEq, Repr

/-! ## Wafer tables (chapter 3) -/

inductive TableState where
  | empty | loading | occupied | unloading
  deriving DecidableEq, Repr

/-- The endings of an unload (Table 3-1). -/
inductive Ending where
  | mismatch | dismounted | aborted
  deriving DecidableEq, Repr

/-- The identity carried by the latest WAFER-IN on a table (Table 3-1). -/
inductive ReadId where
  | none | unread | read (id : Text)
  deriving DecidableEq, Repr

/-- Table record (Table 3-1, R42). -/
structure TableRec where
  state : TableState
  slot : Option SlotId
  faulted : Bool
  unloadWanted : Bool
  ending : Option Ending
  readId : ReadId
  deriving DecidableEq, Repr

/-! ## Strips and units (chapter 4) -/

/-- An entry of a strip type's position list (R63). -/
structure LayoutPos where
  dieType : DieType
  x : Int
  y : Int
  stackOn : Option Nat
  deriving DecidableEq, Repr

/-- Strip type record (Table 4-1, R63). -/
structure StripType where
  rows : Nat
  cols : Nat
  split : Nat
  pitch : Nat
  tolerance : Nat
  matchRequired : Bool
  positions : List LayoutPos
  deriving DecidableEq, Repr

inductive StripState where
  | none | loading | active | ejecting
  deriving DecidableEq, Repr

inductive Verdict where
  | accepted | pitch | type | recipe
  deriving DecidableEq, Repr

/-- Unit states (Table 4-4). -/
inductive UnitState where
  | opened | assembling | complete | flawed | skipped | voided
  deriving DecidableEq, Repr

/-- Position states (R75). -/
inductive PosState where
  | empty | allocated | placed | suspect | uncertain | abandoned
  deriving DecidableEq, Repr

/-- Position entry (R72, R75). -/
structure Position where
  dieType : DieType
  x : Int
  y : Int
  stackOn : Option Nat
  state : PosState
  deriving DecidableEq, Repr

/-- Unit entry (Table 4-4, R74). -/
structure StripUnit where
  index : Nat
  row : Nat
  col : Nat
  lane : Lane
  state : UnitState
  group : Option Group
  relaxed : Bool
  positions : List Position
  deriving DecidableEq, Repr

/-- Current strip record (Table 4-2, R67). -/
structure Strip where
  state : StripState
  done : Bool
  stripId : Option Text
  typeCode : Option Nat
  layout : Option StripType
  pitch : Option Nat
  verdict : Option Verdict
  units : List StripUnit
  deriving DecidableEq, Repr

/-- A unit index and a position number, counted from 1 (Table 5-1, Table 9-1). -/
structure Dest where
  unit : Nat
  pos : Nat
  deriving DecidableEq, Repr

/-! ## Picker and tokens (chapter 5) -/

inductive PickerState where
  | idle | stepping | picking | putting | purging | aborting
  deriving DecidableEq, Repr

structure Picker where
  state : PickerState
  lastLane : Lane
  deriving DecidableEq, Repr

/-- Where a token's die is (Table 5-1): PICKER, NEST-n or COLLET-n. -/
inductive Place where
  | picker | nest (n : Lane) | collet (n : Lane)
  deriving DecidableEq, Repr

/-- Die token record (Table 5-1, R87). -/
structure Token where
  slot : SlotId
  row : Nat
  col : Nat
  bin : Nat
  cls : Nat
  group : Group
  dieType : DieType
  generation : BitVec 8
  lane : Lane
  dest : Option Dest
  place : Place
  reserved : Bool
  deriving DecidableEq, Repr

/-! ## Lanes (chapter 6) -/

inductive NestState where
  | empty | receiving | settling | ready | blocked
  deriving DecidableEq, Repr

inductive ColletState where
  | idle | taking | bonding | dwell | purging | aborting
  deriving DecidableEq, Repr

inductive PurgeSource where
  | collet | nest
  deriving DecidableEq, Repr

/-- The collet state that an ABORT replaced (Table 6-1). -/
inductive AbortOrigin where
  | taking | bonding | dwell
  deriving DecidableEq, Repr

/-- What the outstanding BOND was sent for (Table 6-1, R113). -/
structure BondContext where
  unit : Nat
  row : Nat
  col : Nat
  pos : Nat
  quanta : Nat
  cycle : BitVec 5
  deriving DecidableEq, Repr

/-- Lane record (Table 6-1, R106). The settle timer is none when expired, else the time left in 0.1 ms. -/
structure LaneRec where
  enable : Bool
  settle : Nat
  threshold : Nat
  degraded : Bool
  offsetFailures : Nat
  nest : NestState
  settleTimer : Option Nat
  collet : ColletState
  bond : Option BondContext
  purge : Option PurgeSource
  abort : Option AbortOrigin
  deriving DecidableEq, Repr

/-! ## Force monitors (chapter 7) -/

inductive Gain where
  | x1 | x4
  deriving DecidableEq, Repr

inductive MonitorState where
  | idle | dwell | unwatched | spoiled
  deriving DecidableEq, Repr

/-- Force monitor record (Table 7-1, R131). -/
structure Monitor where
  enable : Bool
  gain : Gain
  state : MonitorState
  latest : Option Nat
  fresh : Bool
  tare : Nat
  dwellMin : Option Nat
  dwellMax : Option Nat
  count : Nat
  deriving DecidableEq, Repr

inductive ForceVerdict where
  | good | low | high | unmeasured | notMonitored
  deriving DecidableEq, Repr

/-! ## Placement log (chapter 8) -/

inductive Fate where
  | bonded | dropped | purged | unknown
  deriving DecidableEq, Repr

/-- The result of a bond (Table 6-5). -/
inductive BondResult where
  | placed | suspect
  deriving DecidableEq, Repr

/-- The strip fields of a placement record (Table 8-1). -/
structure StripFields where
  stripId : Text
  row : Nat
  col : Nat
  pos : Nat
  deriving DecidableEq, Repr

/-- The bond fields of a placement record (Table 8-1). -/
structure BondFields where
  quanta : Nat
  cycle : BitVec 5
  dx : Int
  dy : Int
  rotation : Int
  seen : Bool
  offsetFault : Bool
  tare : Nat
  forceMin : Nat
  forceMax : Nat
  forceCount : Nat
  force : ForceVerdict
  result : BondResult
  deriving DecidableEq, Repr

/-- Placement record (Table 8-1, R141). -/
structure Placement where
  serial : BitVec 16
  fate : Fate
  lane : Option Lane
  slot : SlotId
  waferId : Option Text
  dieType : DieType
  row : Nat
  col : Nat
  bin : Nat
  cls : Nat
  generation : BitVec 8
  strip : Option StripFields
  bond : Option BondFields
  deriving DecidableEq, Repr

inductive Policy where
  | stall | overwrite
  deriving DecidableEq, Repr

/-- Placement log (R140). LEVEL is computed from the record count and the trigger (notes/assumptions/17.md). -/
structure Log where
  /-- The records, oldest first. -/
  records : List Placement
  policy : Policy
  reserved : Nat
  serial : BitVec 16
  overwritten : Nat
  trigger : Nat
  ageTimeout : Nat
  ageTimer : Option Nat
  aged : Bool
  deriving DecidableEq, Repr

/-! ## Production control (chapter 9) -/

inductive CellState where
  | stopped | running | holding | held | stopping
  deriving DecidableEq, Repr

inductive HoldCause where
  | request | link | lane
  deriving DecidableEq, Repr

inductive Gating where
  | all | any
  deriving DecidableEq, Repr

inductive WaitReason where
  | group | unmounted | noDie
  deriving DecidableEq, Repr

/-- The waiting part of a lane (Table 9-1). -/
structure Wait where
  waiting : Bool
  reason : Option WaitReason
  position : Option Dest
  timer : Option Nat
  starved : Bool
  deriving DecidableEq, Repr

/-- Production control record (Table 9-1, R152). -/
structure Control where
  cell : CellState
  holdCause : Option HoldCause
  gating : Gating
  timeout : Nat
  waits : PerLane Wait
  deriving DecidableEq, Repr

/-! ## Station links (chapter 10) -/

inductive LinkState where
  | disabled | hunting | up | fault
  deriving DecidableEq, Repr

inductive FaultCause where
  | timeout | crcLimit | stationError | wrongKind | identity
  deriving DecidableEq, Repr

/-- The eleven order kinds of Table 10-4, in ascending station frame kind (Table 11-8). -/
inductive OrderKind where
  | loadWafer | unloadWafer | step | pick | put | purge | take | bond | loadStrip | ejectStrip | abort
  deriving DecidableEq, Repr

structure Order where
  kind : OrderKind
  number : Byte
  deriving DecidableEq, Repr

/-- Link record (Table 10-1, R168). Timers are none when stopped, else the time left in 0.1 ms. -/
structure LinkRec where
  state : LinkState
  cause : Option FaultCause
  identity : Text
  locked : Option Text
  nextNumber : Byte
  outstanding : Option Order
  watchdog : Option Nat
  crcCount : Nat
  crcThreshold : Nat
  lateCount : Nat
  test : Nat
  lastError : Option Byte
  /-- Time to the next CALL while HUNTING (R172). -/
  callTimer : Option Nat
  /-- The break of RESET-LINK in progress (R181). -/
  breakTimer : Option Nat
  deriving DecidableEq, Repr

/-- The table of watchdog limits, in milliseconds, shared by the six links (R168, Table 10-4). -/
structure Limits where
  loadWafer : Nat
  unloadWafer : Nat
  step : Nat
  pick : Nat
  put : Nat
  purge : Nat
  take : Nat
  bond : Nat
  loadStrip : Nat
  ejectStrip : Nat
  abort : Nat
  deriving DecidableEq, Repr

/-- What the part has put on a station link: a frame with its check as sent, or a break. -/
inductive LineEvent where
  | frame (link : Link) (number kind : Byte) (params : List Byte) (check : Byte)
  | brk (link : Link)
  deriving DecidableEq, Repr

/-! ## Condition unit and command link (chapter 11) -/

/-- The nine conditions in priority order (Table 11-2). -/
inductive CondId where
  | stationFault | cellHeld | laneOut | unitStarved | waferExhausted | mountDone | log | stripDone | linkDiscard
  deriving DecidableEq, Repr

inductive OutReason where
  | degraded | faulted
  deriving DecidableEq, Repr

inductive MountOutcome where
  | mounted | mismatch | aborted | dismounted | tableFault
  deriving DecidableEq, Repr

inductive DiscardCause where
  | length | gap | check | full
  deriving DecidableEq, Repr

inductive ResetCause where
  | power | pin | command
  deriving DecidableEq, Repr

/-- The detail of a condition (Table 11-2, Table 11-6). -/
inductive Detail where
  | stationFault (link : Link) (cause : FaultCause) (order : Option OrderKind) (error : Option Byte)
  | cellHeld (cause : Option HoldCause)
  | laneOut (lane : Lane) (reason : OutReason)
  | unitStarved (lane : Lane) (row col pos : Nat) (reason : Option WaitReason)
  | waferExhausted (slot : SlotId) (dieType : DieType)
  | mountDone (table : Table) (slot : Option SlotId) (outcome : MountOutcome) (readId : ReadId)
  | log (level aged : Bool) (count : Nat)
  | stripDone (stripId : Option Text) (verdict : Option Verdict) (complete flawed skipped voided : Nat)
  | linkDiscard (cause : DiscardCause) (count : Nat)
  deriving DecidableEq, Repr

/-- One condition: its latest detail, present while it is pending, and its notice enable (R193). -/
structure Cond where
  detail : Option Detail
  enable : Bool
  deriving DecidableEq, Repr

/-- The nine conditions (Table 11-2). -/
structure Conds where
  stationFault : Cond
  cellHeld : Cond
  laneOut : Cond
  unitStarved : Cond
  waferExhausted : Cond
  mountDone : Cond
  log : Cond
  stripDone : Cond
  linkDiscard : Cond
  deriving DecidableEq, Repr

/-- A command frame that waits in the receive queue (R187). -/
structure Frame where
  kind : Byte
  tag : Byte
  payload : List Byte
  deriving DecidableEq, Repr

/-- A record to go out on CTX (R190, Table 11-5): a reply with its kind, tag and payload; the notice of a
condition with its sequence and detail bytes; or STARTED. -/
inductive TxRecord where
  | reply (kind tag : Byte) (payload : List Byte)
  | notice (cond : CondId) (sequence : Byte) (detail : List Byte)
  | started (sequence : Byte) (cause : ResetCause)
  deriving DecidableEq, Repr

/-- The rate straps (Table 0-3). -/
structure Straps where
  crs1 : Bool
  crs0 : Bool
  deriving DecidableEq, Repr

/-- Command link (R187 to R190, R196). -/
structure HostLink where
  /-- The receive queue, oldest first. -/
  queue : List Frame
  discards : Nat
  /-- The records on CTX in order; the first is being sent. -/
  tx : List TxRecord
  /-- The sequence the next notice takes. -/
  sequence : Byte
  /-- A RESET-CELL is taken and its reply not yet sent in full (R196). -/
  resetDue : Bool
  /-- The straps as sampled at the latest reset (R187). -/
  rate : Straps
  deriving DecidableEq, Repr

/-! ## The whole state and the stops -/

/-- The state of the LV-418. -/
structure State where
  /-- Steps waiting to be taken, first in first out; the model's own. -/
  pending : List Instr
  /-- The supply is up (R196). -/
  powered : Bool
  /-- The strap levels at the pins (Table 0-2). -/
  pins : Straps
  slots : PerQuad Slot
  classes : ClassTables
  recipes : RecipeStore
  tables : PerTable TableRec
  /-- The search-again marks (R60). -/
  searchAgain : PerLane Bool
  stripTypes : PerQuad (Option StripType)
  stripLock : Option TypeCode
  strip : Strip
  picker : Picker
  /-- The token pool (R88). -/
  tokens : List Token
  lanes : PerLane LaneRec
  monitors : PerLane Monitor
  log : Log
  control : Control
  links : PerLink LinkRec
  limits : Limits
  /-- What has been sent on the station links since the reset, oldest first; the model's own. -/
  wire : List LineEvent
  host : HostLink
  conds : Conds
  deriving DecidableEq, Repr

/-- No step of this part stops the machine: a refused command is a reply (R189) and a failed link is a
state of the link (R179). So no fault exists; claiming one is impossible, which is safe. -/
inductive Fault where
  deriving DecidableEq, Repr

/-- Why the model itself has no answer. -/
inductive Refusal where
  /-- Raised only by an arm of exec whose row has no meaning yet; safe, since it stops. No arm raises it now. -/
  | notModelled (mnemonic : String)
  deriving DecidableEq, Repr

/-! ## Reset (R23, R41, R62, R86, R105, R130, R139, R151, R167, R186, R196) -/

/-- The values of an EMPTY slot (Table 1-1). -/
def Slot.reset : Slot :=
  { state := .empty, dieType := .q0, rows := 0, cols := 0, expectedId := none, waferId := none,
    idLock := false, rowOffset := 0, colOffset := 0, delivered := [], floorRow := 0, disposal := 0,
    exhausted := false, sites := [] }

/-- Class tables after reset (R41). -/
def ClassTables.reset : ClassTables :=
  { bank0 := List.replicate 64 none, bank1 := List.replicate 64 none, active := .zero,
    groups := List.replicate 16 .q0 }

/-- Recipe store after reset (R41). -/
def RecipeStore.reset : RecipeStore :=
  { active := ⟨none, none, none, none⟩, staged := ⟨none, none, none, none⟩,
    generation := ⟨0, 0, 0, 0⟩, cycle := ⟨⟨0, 0, 0, 0⟩, ⟨0, 0, 0, 0⟩⟩ }

/-- A table after reset (R62). -/
def TableRec.reset : TableRec :=
  { state := .empty, slot := none, faulted := false, unloadWanted := false, ending := none, readId := .none }

/-- The strip record of NONE (R67, R86). -/
def Strip.reset : Strip :=
  { state := .none, done := false, stripId := none, typeCode := none, layout := none, pitch := none,
    verdict := none, units := [] }

/-- A lane after reset (Table 6-1, R130). -/
def LaneRec.reset : LaneRec :=
  { enable := true, settle := 10, threshold := 8, degraded := false, offsetFailures := 0, nest := .empty,
    settleTimer := none, collet := .idle, bond := none, purge := none, abort := none }

/-- A force monitor after reset (Table 7-1, R139). -/
def Monitor.reset : Monitor :=
  { enable := true, gain := .x1, state := .idle, latest := none, fresh := false, tare := 0,
    dwellMin := none, dwellMax := none, count := 0 }

/-- The placement log after reset (R151). -/
def Log.reset : Log :=
  { records := [], policy := .stall, reserved := 0, serial := 0, overwritten := 0, trigger := 512,
    ageTimeout := 50, ageTimer := none, aged := false }

/-- A lane that is not waiting (R152, R167). -/
def Wait.reset : Wait :=
  { waiting := false, reason := none, position := none, timer := none, starved := false }

/-- Production control after reset (R167). -/
def Control.reset : Control :=
  { cell := .stopped, holdCause := none, gating := .all, timeout := 20, waits := ⟨.reset, .reset⟩ }

/-- A station link after reset (Table 10-1, R186). -/
def LinkRec.reset : LinkRec :=
  { state := .disabled, cause := none, identity := List.replicate 8 32, locked := none, nextNumber := 0,
    outstanding := none, watchdog := none, crcCount := 0, crcThreshold := 4, lateCount := 0, test := 0,
    lastError := none, callTimer := none, breakTimer := none }

/-- The watchdog limits after reset (Table 10-4). -/
def Limits.reset : Limits :=
  { loadWafer := 20000, unloadWafer := 20000, step := 500, pick := 300, put := 300, purge := 1000,
    take := 300, bond := 1000, loadStrip := 5000, ejectStrip := 5000, abort := 500 }

/-- A condition after reset: not pending, its notice enabled (R196). -/
def Cond.reset : Cond := { detail := none, enable := true }

/-- The condition unit after reset (R196). -/
def Conds.reset : Conds := ⟨.reset, .reset, .reset, .reset, .reset, .reset, .reset, .reset, .reset⟩

/-- The command link after reset: STARTED with sequence 0 is the first record sent (R196). -/
def HostLink.reset (cause : ResetCause) (straps : Straps) : HostLink :=
  { queue := [], discards := 0, tx := [.started 0 cause], sequence := 1, resetDue := false, rate := straps }

/-- Every block at its values after a reset of the given cause, with the straps sampled as given. -/
def State.afterReset (cause : ResetCause) (straps : Straps) (pending : List Instr) : State :=
  { pending := pending, powered := true, pins := straps,
    slots := ⟨.reset, .reset, .reset, .reset⟩,
    classes := .reset, recipes := .reset, tables := ⟨.reset, .reset⟩, searchAgain := ⟨false, false⟩,
    stripTypes := ⟨none, none, none, none⟩, stripLock := none, strip := .reset,
    picker := { state := .idle, lastLane := .two }, tokens := [],
    lanes := ⟨.reset, .reset⟩, monitors := ⟨.reset, .reset⟩, log := .reset, control := .reset,
    links := ⟨.reset, .reset, .reset, .reset, .reset, .reset⟩, limits := .reset, wire := [],
    host := .reset cause straps, conds := .reset }

/-- The machine right after power-on. The spec gives the straps no value: CRS1 and CRS0 low is the
model's choice (DESIGN CHOICE, notes/assumptions/8.md). -/
def State.reset : State := State.afterReset .power ⟨false, false⟩ []

end Sys2Proof.Machine
end

