-- ==== Sys2Proof/Machine/Clock.lean ====
section
/-! DEFINITION. The passing of 0.1 ms: what a step does when no command waits (notes/assumptions/4.md, 25.md). -/

namespace Sys2Proof.Machine

/-- A running timer counts down by one, and stays at one until its expiry is taken; a stopped timer stays stopped. -/
def countDown : Option Nat → Option Nat
  | some (n + 2) => some (n + 1)
  | t => t

/-- The settle timer of a lane (R108). -/
def LaneRec.tick (r : LaneRec) : LaneRec := { r with settleTimer := countDown r.settleTimer }

/-- The starvation timer of a lane (R163). -/
def Wait.tick (w : Wait) : Wait := { w with timer := countDown w.timer }

/-- The watchdog, the time to the next CALL and the break of a link (R172, R177, R181). -/
def LinkRec.tick (r : LinkRec) : LinkRec :=
  { r with watchdog := countDown r.watchdog, callTimer := countDown r.callTimer, breakTimer := countDown r.breakTimer }

/-- 0.1 ms passes: every interval timer counts, and nothing else changes. Nothing counts while the supply is down. -/
def idleTick (s : State) : State :=
  if s.powered then
    { s with
      lanes := ⟨s.lanes.one.tick, s.lanes.two.tick⟩
      log := { s.log with ageTimer := countDown s.log.ageTimer }
      control := { s.control with waits := ⟨s.control.waits.one.tick, s.control.waits.two.tick⟩ }
      links := ⟨s.links.ta.tick, s.links.tb.tick, s.links.pk.tick, s.links.b1.tick, s.links.b2.tick, s.links.ix.tick⟩ }
  else s

end Sys2Proof.Machine
end

