-- ==== Sys2Proof/Machine/Wire.lean ====
section
/-! DEFINITION. Bytes of the layouts of R197: fields, enumeration codes, the two checks, and the records sent. -/

namespace Sys2Proof.Machine

/-! ## Fields (R197) -/

/-- A one-byte number. -/
def u8 (n : Nat) : Byte := BitVec.ofNat 8 n

/-- A two-byte number, least significant byte first. -/
def u16 (n : Nat) : List Byte := [BitVec.ofNat 8 n, BitVec.ofNat 8 (n / 256)]

/-- A signed one-byte number. -/
def i8 (z : Int) : Byte := BitVec.ofInt 8 z

/-- A signed two-byte number, least significant byte first. -/
def i16 (z : Int) : List Byte := u16 (BitVec.ofInt 16 z).toNat

/-- A flag or a yes-or-no field: yes and set are 1. -/
def flag (b : Bool) : Byte := if b then 1 else 0

/-- A field that may be absent: a presence byte, then the value bytes, sent as 0 when absent. -/
def optional (width : Nat) : Option (List Byte) → List Byte
  | none => 0 :: List.replicate width 0
  | some bytes => 1 :: bytes

/-- A text field of `width` bytes in a layout of its own: zero bytes when absent. -/
def textOrZeros (width : Nat) : Option Text → List Byte
  | none => List.replicate width 0
  | some t => t

/-- The value of two bytes, least significant first. -/
def nat16 (lo hi : Byte) : Nat := lo.toNat + 256 * hi.toNat

/-- The signed value of two bytes, least significant first. -/
def int16 (lo hi : Byte) : Int := (BitVec.ofNat 16 (nat16 lo hi)).toInt

/-- A printable character: codes 32 to 126 (chapter 1, R197). -/
def printable (b : Byte) : Bool := decide (32 ≤ b.toNat) && decide (b.toNat ≤ 126)

/-- A text of the given width, all printable. -/
def isText (width : Nat) (t : Text) : Bool := decide (t.length = width) && t.all printable

/-- A flag byte read: 0 no, 1 yes, nothing else. -/
def flagOf (b : Byte) : Option Bool :=
  match b.toNat with
  | 0 => some false
  | 1 => some true
  | _ => none

/-! ## Numbers of the small families -/

/-- Slots, die types, groups and type codes by number. -/
def Quad.ofNumber : Nat → Option Quad
  | 0 => some .q0
  | 1 => some .q1
  | 2 => some .q2
  | 3 => some .q3
  | _ => none

def Quad.number : Quad → Nat
  | .q0 => 0 | .q1 => 1 | .q2 => 2 | .q3 => 3

def laneOf : Nat → Option Lane
  | 1 => some .one
  | 2 => some .two
  | _ => none

def laneNumber : Lane → Nat
  | .one => 1 | .two => 2

def tableOf : Nat → Option Table
  | 0 => some .a
  | 1 => some .b
  | _ => none

def tableCode : Table → Nat
  | .a => 0 | .b => 1

def linkOf : Nat → Option Link
  | 0 => some .ta | 1 => some .tb | 2 => some .pk | 3 => some .b1 | 4 => some .b2 | 5 => some .ix
  | _ => none

def linkCode : Link → Nat
  | .ta => 0 | .tb => 1 | .pk => 2 | .b1 => 3 | .b2 => 4 | .ix => 5

def bankOf : Nat → Option Bank
  | 0 => some .zero
  | 1 => some .one
  | _ => none

def bankCode : Bank → Nat
  | .zero => 0 | .one => 1

/-- Order kinds by their station frame kind (Table 11-8). -/
def OrderKind.code : OrderKind → Byte
  | .loadWafer => 2 | .unloadWafer => 3 | .step => 4 | .pick => 5 | .put => 6 | .purge => 7
  | .take => 8 | .bond => 9 | .loadStrip => 10 | .ejectStrip => 11 | .abort => 12

def OrderKind.ofCode : Nat → Option OrderKind
  | 2 => some .loadWafer | 3 => some .unloadWafer | 4 => some .step | 5 => some .pick | 6 => some .put
  | 7 => some .purge | 8 => some .take | 9 => some .bond | 10 => some .loadStrip | 11 => some .ejectStrip
  | 12 => some .abort | _ => none

/-! ## Enumeration codes, in the order the tables list their values (R197) -/

def SlotState.code : SlotState → Byte
  | .empty => 0 | .loading => 1 | .ready => 2 | .mounting => 3 | .mounted => 4 | .unmounting => 5

def SiteState.code : SiteState → Nat
  | .void => 0 | .present => 1 | .reserved => 2 | .taken => 3 | .missed => 4

def MarkRule.code : MarkRule → Byte
  | .require => 0 | .forbid => 1 | .ignore => 2

def TableState.code : TableState → Byte
  | .empty => 0 | .loading => 1 | .occupied => 2 | .unloading => 3

def StripState.code : StripState → Byte
  | .none => 0 | .loading => 1 | .active => 2 | .ejecting => 3

def Verdict.code : Verdict → Byte
  | .accepted => 0 | .pitch => 1 | .type => 2 | .recipe => 3

def UnitState.code : UnitState → Nat
  | .opened => 0 | .assembling => 1 | .complete => 2 | .flawed => 3 | .skipped => 4 | .voided => 5

def PosState.code : PosState → Nat
  | .empty => 0 | .allocated => 1 | .placed => 2 | .suspect => 3 | .uncertain => 4 | .abandoned => 5

def PickerState.code : PickerState → Byte
  | .idle => 0 | .stepping => 1 | .picking => 2 | .putting => 3 | .purging => 4 | .aborting => 5

def Place.code : Place → Byte
  | .picker => 0 | .nest .one => 1 | .collet .one => 2 | .nest .two => 3 | .collet .two => 4

def NestState.code : NestState → Byte
  | .empty => 0 | .receiving => 1 | .settling => 2 | .ready => 3 | .blocked => 4

def ColletState.code : ColletState → Byte
  | .idle => 0 | .taking => 1 | .bonding => 2 | .dwell => 3 | .purging => 4 | .aborting => 5

def PurgeSource.code : PurgeSource → Byte
  | .collet => 0 | .nest => 1

/-- A gain is coded as an enumeration of ×1 and ×4, and not by its number (DEDUCED, notes/assumptions/31.md). -/
def Gain.code : Gain → Byte
  | .x1 => 0 | .x4 => 1

def MonitorState.code : MonitorState → Byte
  | .idle => 0 | .dwell => 1 | .unwatched => 2 | .spoiled => 3

def ForceVerdict.code : ForceVerdict → Nat
  | .good => 0 | .low => 1 | .high => 2 | .unmeasured => 3 | .notMonitored => 4

def Fate.code : Fate → Nat
  | .bonded => 0 | .dropped => 1 | .purged => 2 | .unknown => 3

def Policy.code : Policy → Byte
  | .stall => 0 | .overwrite => 1

def CellState.code : CellState → Byte
  | .stopped => 0 | .running => 1 | .holding => 2 | .held => 3 | .stopping => 4

def HoldCause.code : HoldCause → Byte
  | .request => 0 | .link => 1 | .lane => 2

def Gating.code : Gating → Byte
  | .all => 0 | .any => 1

def WaitReason.code : WaitReason → Byte
  | .group => 0 | .unmounted => 1 | .noDie => 2

def LinkState.code : LinkState → Byte
  | .disabled => 0 | .hunting => 1 | .up => 2 | .fault => 3

def FaultCause.code : FaultCause → Byte
  | .timeout => 0 | .crcLimit => 1 | .stationError => 2 | .wrongKind => 3 | .identity => 4

def OutReason.code : OutReason → Byte
  | .degraded => 0 | .faulted => 1

def MountOutcome.code : MountOutcome → Byte
  | .mounted => 0 | .mismatch => 1 | .aborted => 2 | .dismounted => 3 | .tableFault => 4

def DiscardCause.code : DiscardCause → Byte
  | .length => 0 | .gap => 1 | .check => 2 | .full => 3

def ResetCause.code : ResetCause → Byte
  | .power => 0 | .pin => 1 | .command => 2

/-- Conditions by priority (Table 11-2). -/
def CondId.priority : CondId → Nat
  | .stationFault => 1 | .cellHeld => 2 | .laneOut => 3 | .unitStarved => 4 | .waferExhausted => 5
  | .mountDone => 6 | .log => 7 | .stripDone => 8 | .linkDiscard => 9

/-- The reply statuses (Table 11-5), DONE aside. -/
inductive Status where
  | unknownKind | badLength | badValue | wrongState | busy | noRoom | incomplete | mismatch | notFound
  deriving DecidableEq, Repr

def Status.code : Status → Byte
  | .unknownKind => 1 | .badLength => 2 | .badValue => 3 | .wrongState => 4 | .busy => 5 | .noRoom => 6
  | .incomplete => 7 | .mismatch => 8 | .notFound => 9

/-! ## Checks (R197) -/

/-- One bit of the CRC-8: x^8 + x^2 + x + 1, most significant bit first. -/
def crc8Shift (c : BitVec 8) : BitVec 8 := bif c.msb then (c <<< 1) ^^^ 7#8 else c <<< 1

def crc8Byte (c b : BitVec 8) : BitVec 8 := (List.range 8).foldl (fun x _ => crc8Shift x) (c ^^^ b)

/-- CRC-8 over the number, kind and parameters of a station frame, the register preset to 0. -/
def crc8 (bytes : List Byte) : Byte := bytes.foldl crc8Byte 0#8

/-- One bit of the CRC-16: x^16 + x^12 + x^5 + 1, most significant bit first. -/
def crc16Shift (c : BitVec 16) : BitVec 16 := bif c.msb then (c <<< 1) ^^^ 0x1021#16 else c <<< 1

def crc16Byte (c : BitVec 16) (b : Byte) : BitVec 16 :=
  (List.range 8).foldl (fun x _ => crc16Shift x) (c ^^^ (b.setWidth 16 <<< 8))

/-- CRC-16 over the length, kind, tag and payload of a command link frame, the register preset to ones. -/
def crc16 (bytes : List Byte) : BitVec 16 := bytes.foldl crc16Byte 0xffff#16

/-- The bytes the CRC-16 of a command link frame covers: length (kind through payload), kind, tag, payload
(Table 11-4). -/
def frameBody (kind tag : Byte) (payload : List Byte) : List Byte :=
  u16 (payload.length + 2) ++ [kind, tag] ++ payload

/-- A whole command link frame (Table 11-4): start byte 195, length, kind, tag, payload, check. -/
def frameBytes (kind tag : Byte) (payload : List Byte) : List Byte :=
  195#8 :: frameBody kind tag payload ++ u16 (crc16 (frameBody kind tag payload)).toNat

/-- A whole station frame (Table 11-8): start byte 90, number, kind, parameters, check. -/
def stationFrameBytes (number kind : Byte) (params : List Byte) (check : Byte) : List Byte :=
  90#8 :: number :: kind :: params ++ [check]

/-! ## Details, recipes and placement records -/

/-- The detail bytes of a condition (Table 11-6). -/
def Detail.bytes : Detail → List Byte
  | .stationFault l c k e =>
    [u8 (linkCode l), c.code, (k.map OrderKind.code).getD 0, flag e.isSome, e.getD 0]
  | .cellHeld c => [(c.map HoldCause.code).getD 0]
  | .laneOut n r => [u8 (laneNumber n), r.code]
  | .unitStarved n row col pos r => [u8 (laneNumber n), u8 row, u8 col, u8 pos, (r.map WaitReason.code).getD 0]
  | .waferExhausted i t => [u8 i.number, u8 t.number]
  | .mountDone t i o r =>
    [u8 (tableCode t), u8 ((i.map Quad.number).getD 0), o.code] ++
      (match r with
       | .read id => 0 :: id
       | .unread => 1 :: List.replicate 12 0
       | .none => 2 :: List.replicate 12 0)
  | .log level aged n => u8 ((if level then 1 else 0) + (if aged then 2 else 0)) :: u16 n
  | .stripDone id v c f s w =>
    textOrZeros 12 id ++ [(v.map Verdict.code).getD 0] ++ u16 c ++ u16 f ++ u16 s ++ u16 w
  | .linkDiscard c n => c.code :: u16 n

/-- The condition a detail belongs to. -/
def Detail.cond : Detail → CondId
  | .stationFault .. => .stationFault
  | .cellHeld .. => .cellHeld
  | .laneOut .. => .laneOut
  | .unitStarved .. => .unitStarved
  | .waferExhausted .. => .waferExhausted
  | .mountDone .. => .mountDone
  | .log .. => .log
  | .stripDone .. => .stripDone
  | .linkDiscard .. => .linkDiscard

/-- The bytes of one record on CTX as kind, tag and payload (Table 11-5). -/
def TxRecord.parts : TxRecord → Byte × Byte × List Byte
  | .reply kind tag payload => (kind, tag, payload)
  | .notice c q detail => (255, q, u8 c.priority :: detail)
  | .started q cause => (255, q, [0, cause.code])

/-- The bytes one record on CTX goes out as (Table 11-4). -/
def TxRecord.frame (r : TxRecord) : List Byte :=
  match r.parts with
  | (kind, tag, payload) => frameBytes kind tag payload

/-- Marks as bits EDGE, HOLD, RETEST, VISUAL (R197). -/
def Marks.toNat (m : Marks) : Nat :=
  (if m.edge then 1 else 0) + (if m.hold then 2 else 0) + (if m.retest then 4 else 0) + (if m.visual then 8 else 0)

/-- A recipe's 18 bytes (Table 2-1 under the general rules of R197). -/
def Recipe.bytes (r : Recipe) : List Byte :=
  u16 r.acceptance.toNat ++ [r.filter.edge.code, r.filter.hold.code, r.filter.retest.code, r.filter.visual.code,
    u8 r.base, u8 r.fine] ++ u16 r.setpoint ++ [u8 r.dwell] ++ u16 r.windowLow ++ u16 r.windowHigh ++
    [u8 r.offsetLimit, u8 r.rotationLimit, u8 r.retryLimit]

/-- A placement record's 48 bytes (Table 11-7). -/
def Placement.bytes (p : Placement) : List Byte :=
  let lane := (p.lane.map laneNumber).getD 0
  let b := p.bond
  let tare := (b.map (·.tare)).getD 0
  let fmin := (b.map (·.forceMin)).getD 0
  let fmax := (b.map (·.forceMax)).getD 0
  let word := tare + 1024 * fmin + 1048576 * fmax
  u16 p.serial.toNat ++
  [ u8 (p.fate.code + 4 * lane + (if p.strip.isSome then 16 else 0) + (if b.isSome then 32 else 0)
      + (if p.waferId.isSome then 64 else 0)),
    u8 (p.slot.number + 4 * p.dieType.number + 16 * p.cls),
    u8 p.row, u8 p.col,
    u8 (p.bin + (if (b.map (·.seen)).getD false then 64 else 0) + (if (b.map (·.offsetFault)).getD false then 128 else 0)),
    p.generation ] ++
  textOrZeros 12 p.waferId ++
  textOrZeros 12 (p.strip.map (·.stripId)) ++
  [ u8 ((p.strip.map (·.col)).getD 0 + (if b.map (·.result) = some .suspect then 64 else 0)),
    u8 ((p.strip.map (·.row)).getD 0 + 8 * (p.strip.map (·.pos)).getD 0),
    u8 ((b.map (·.quanta)).getD 0),
    u8 ((b.map (·.cycle.toNat)).getD 0 + 32 * (b.map (·.force.code)).getD 0) ] ++
  i16 ((b.map (·.dx)).getD 0) ++ i16 ((b.map (·.dy)).getD 0) ++ i16 ((b.map (·.rotation)).getD 0) ++
  u16 ((b.map (·.forceCount)).getD 0) ++
  [u8 word, u8 (word / 256), u8 (word / 65536), u8 (word / 16777216)]

end Sys2Proof.Machine
end

