-- ==== Sys2Proof/Machine/Operands.lean ====
section
/-! DEFINITION. Payloads of the host commands read as R197 lays them out: `none` where the length or a list inside does
not fit (BAD-LENGTH), the raw fields otherwise; and the range checks that turn raw fields into values. -/

namespace Sys2Proof.Machine

/-- The value of a field that may be absent: presence 0 or 1, nothing else (notes/assumptions/10.md). -/
def presence {α : Type} (p : Byte) (v : α) : Option (Option α) :=
  match p.toNat with
  | 0 => some none
  | 1 => some (some v)
  | _ => none

/-- An optional text of a width, all printable when present. -/
def optText (width : Nat) (p : Byte) (t : Text) : Option (Option Text) :=
  match presence p t with
  | some none => some none
  | some (some id) => if isText width id then some (some id) else none
  | none => none

/-! ## Map commands (R6 to R15) -/

/-- MAP-OPEN: slot, die-type, rows, cols, optional expected wafer-id. -/
structure MapOpenArgs where
  slot : Nat
  dieType : Nat
  rows : Nat
  cols : Nat
  idPresent : Byte
  id : Text
  deriving DecidableEq, Repr

def readMapOpen : List Byte → Option MapOpenArgs
  | slot :: die :: rows :: cols :: p :: id =>
    if id.length = 12 then some ⟨slot.toNat, die.toNat, rows.toNat, cols.toNat, p, id⟩ else none
  | _ => none

/-- A run of a row entry: a count and a bin (R7). -/
structure Run where
  count : Nat
  bin : Nat
  deriving DecidableEq, Repr

/-- The k bins of a literal group, six bits each, the first in the lowest bits. -/
def literalBins (k : Nat) (bytes : List Byte) : List Run :=
  let word := bytes.foldr (fun b n => b.toNat + 256 * n) 0
  (List.range k).map fun j => ⟨1, (word / 64 ^ j) % 64⟩

/-- The runs of one row entry's codes; each step takes at least one byte, so `fuel` is the number of bytes. A k of 0 is
kept as a run of count 0, which fails the range check. -/
def readRuns : Nat → List Byte → Option (List Run)
  | _, [] => some []
  | 0, _ => none
  | fuel + 1, code :: rest =>
    let low := code.toNat % 64
    match code.toNat / 64 with
    | 0 =>
      match rest with
      | [] => none
      | count :: more => (readRuns fuel more).map (⟨count.toNat, low⟩ :: ·)
    | 3 =>
      let width := (6 * low + 7) / 8
      if rest.length < width then none
      else
        let group := if low = 0 then [⟨0, 0⟩] else literalBins low (rest.take width)
        (readRuns fuel (rest.drop width)).map (group ++ ·)
    | n => (readRuns fuel rest).map (⟨n, low⟩ :: ·)

/-- The row entries of a MAP-ROWS: `n` of them, each a length and that many bytes, with no byte left over. An entry
of no run fails (R7). -/
def readEntries : Nat → List Byte → Option (List (List Run))
  | 0, [] => some []
  | 0, _ :: _ => none
  | _ + 1, [] => none
  | n + 1, len :: rest =>
    if len.toNat = 0 ∨ rest.length < len.toNat then none
    else
      match readRuns len.toNat (rest.take len.toNat), readEntries n (rest.drop len.toNat) with
      | some row, some more => some (row :: more)
      | _, _ => none

/-- MAP-ROWS: slot, first row, row entries. -/
structure MapRowsArgs where
  slot : Nat
  first : Nat
  entries : List (List Run)
  deriving DecidableEq, Repr

def readMapRows : List Byte → Option MapRowsArgs
  | slot :: first :: n :: rest =>
    if n.toNat = 0 then none else (readEntries n.toNat rest).map fun e => ⟨slot.toNat, first.toNat, e⟩
  | _ => none

/-- MAP-CLOSE: slot, expected count. -/
structure MapCloseArgs where
  slot : Nat
  expected : Nat
  deriving DecidableEq, Repr

def readMapClose : List Byte → Option MapCloseArgs
  | [slot, lo, hi] => some ⟨slot.toNat, nat16 lo hi⟩
  | _ => none

/-- One number alone: a slot, a bank, a lane, a table, a link, a start priority. -/
def readOne : List Byte → Option Nat
  | [n] => some n.toNat
  | _ => none

/-- Two numbers. -/
def readTwo : List Byte → Option (Nat × Nat)
  | [a, b] => some (a.toNat, b.toNat)
  | _ => none

/-- No field. -/
def readNothing : List Byte → Option Unit
  | [] => some ()
  | _ => none

/-- The operations of MAP-MARK (Table 1-5). -/
inductive MarkOp where
  | add | remove | toggle | assign
  deriving DecidableEq, Repr

def markOpOf : Nat → Option MarkOp
  | 0 => some .add | 1 => some .remove | 2 => some .toggle | 3 => some .assign
  | _ => none

/-- Marks from bits EDGE, HOLD, RETEST, VISUAL; a bit not named is ignored on receipt (R197). -/
def marksOf (n : Nat) : Marks := ⟨n.testBit 0, n.testBit 1, n.testBit 2, n.testBit 3⟩

/-- MAP-MARK: slot, rectangle, operation, mark set, value set. -/
structure MapMarkArgs where
  slot : Nat
  row0 : Nat
  row1 : Nat
  col0 : Nat
  col1 : Nat
  op : Nat
  marks : Marks
  values : Marks
  deriving DecidableEq, Repr

def readMapMark : List Byte → Option MapMarkArgs
  | [slot, row0, row1, col0, col1, op, marks, values] =>
    some ⟨slot.toNat, row0.toNat, row1.toNat, col0.toNat, col1.toNat, op.toNat, marksOf marks.toNat, marksOf values.toNat⟩
  | _ => none

/-- MAP-READ: slot, row, optional start column. -/
structure MapReadArgs where
  slot : Nat
  row : Nat
  start : Option (Option Nat)
  deriving DecidableEq, Repr

def readMapRead : List Byte → Option MapReadArgs
  | [slot, row, p, col] => some ⟨slot.toNat, row.toNat, presence p col.toNat⟩
  | _ => none

/-! ## Class tables and recipes (R26 to R37) -/

/-- A list of entries that may be REJECT: a presence byte and a class byte each. -/
def readClassEntries : List Byte → Option (List (Option (Option Nat)))
  | [] => some []
  | [_] => none
  | p :: c :: rest => (readClassEntries rest).map (presence p c.toNat :: ·)

/-- SET-BINS: bank, first bin, 1 to 64 entries. An entry is `none` when its presence byte is out of range. -/
structure SetBinsArgs where
  bank : Nat
  first : Nat
  entries : List (Option (Option Nat))
  deriving DecidableEq, Repr

def readSetBins : List Byte → Option SetBinsArgs
  | bank :: first :: n :: rest =>
    match readClassEntries rest with
    | none => none
    | some e =>
      if e.length = n.toNat ∧ 1 ≤ n.toNat ∧ n.toNat ≤ 64 then some ⟨bank.toNat, first.toNat, e⟩ else none
  | _ => none

/-- The entries of SET-BINS in range: each a class 0 to 15 or REJECT. -/
def classEntries : List (Option (Option Nat)) → Option (List (Option Nat))
  | [] => some []
  | some none :: rest => (classEntries rest).map (none :: ·)
  | some (some k) :: rest => if k ≤ 15 then (classEntries rest).map (some k :: ·) else none
  | none :: _ => none

/-- SET-GROUPS: first class, 1 to 16 groups. -/
structure SetGroupsArgs where
  first : Nat
  groups : List Nat
  deriving DecidableEq, Repr

def readSetGroups : List Byte → Option SetGroupsArgs
  | first :: n :: rest =>
    if rest.length = n.toNat ∧ 1 ≤ n.toNat ∧ n.toNat ≤ 16 then some ⟨first.toNat, rest.map (·.toNat)⟩ else none
  | _ => none

/-- Groups in range. -/
def groupEntries : List Nat → Option (List Group)
  | [] => some []
  | g :: rest =>
    match Quad.ofNumber g, groupEntries rest with
    | some q, some more => some (q :: more)
    | _, _ => none

def markRuleOf : Nat → Option MarkRule
  | 0 => some .require | 1 => some .forbid | 2 => some .ignore
  | _ => none

/-- A full recipe's 18 bytes, raw (Table 2-1). -/
structure RecipeFields where
  acceptance : Nat
  edge : Nat
  hold : Nat
  retest : Nat
  visual : Nat
  base : Nat
  fine : Nat
  setpoint : Nat
  dwell : Nat
  windowLow : Nat
  windowHigh : Nat
  offsetLimit : Nat
  rotationLimit : Nat
  retryLimit : Nat
  deriving DecidableEq, Repr

/-- STAGE-RECIPE: die type, and a full recipe or none. -/
structure StageRecipeArgs where
  dieType : Nat
  recipePresent : Byte
  fields : RecipeFields
  deriving DecidableEq, Repr

def readStageRecipe : List Byte → Option StageRecipeArgs
  | [t, p, aLo, aHi, fe, fh, fr, fv, base, fine, sLo, sHi, dwell, lLo, lHi, hLo, hHi, off, rot, retry] =>
    some ⟨t.toNat, p,
      ⟨nat16 aLo aHi, fe.toNat, fh.toNat, fr.toNat, fv.toNat, base.toNat, fine.toNat, nat16 sLo sHi, dwell.toNat,
        nat16 lLo lHi, nat16 hLo hHi, off.toNat, rot.toNat, retry.toNat⟩⟩
  | _ => none

/-- A recipe in the ranges of Table 2-1; the window's order is checked apart (R33). -/
def RecipeFields.checked (f : RecipeFields) : Option Recipe :=
  match markRuleOf f.edge, markRuleOf f.hold, markRuleOf f.retest, markRuleOf f.visual with
  | some e, some h, some r, some v =>
    if f.base ≤ 63 ∧ f.fine ≤ 31 ∧ f.setpoint ≤ 1023 ∧ 1 ≤ f.dwell ∧ f.windowLow ≤ 1023 ∧ f.windowHigh ≤ 1023 ∧
        1 ≤ f.offsetLimit ∧ 1 ≤ f.rotationLimit ∧ f.retryLimit ≤ 3 then
      some
        { acceptance := BitVec.ofNat 16 f.acceptance, filter := ⟨e, h, r, v⟩, base := f.base, fine := f.fine
          setpoint := f.setpoint, dwell := f.dwell, windowLow := f.windowLow, windowHigh := f.windowHigh
          offsetLimit := f.offsetLimit, rotationLimit := f.rotationLimit, retryLimit := f.retryLimit }
    else none
  | _, _, _, _ => none

/-! ## Tables (R45 to R54) -/

/-- SET-WAFER-ID: slot, expected wafer-id or none, id-lock. -/
structure SetWaferIdArgs where
  slot : Nat
  idPresent : Byte
  id : Text
  lock : Byte
  deriving DecidableEq, Repr

def readSetWaferId : List Byte → Option SetWaferIdArgs
  | slot :: p :: rest =>
    if rest.length = 13 then some ⟨slot.toNat, p, rest.take 12, (rest.drop 12).headD 0⟩ else none
  | _ => none

/-- SET-OFFSET: slot, row offset, column offset. -/
structure SetOffsetArgs where
  slot : Nat
  row : Int
  col : Int
  deriving DecidableEq, Repr

def readSetOffset : List Byte → Option SetOffsetArgs
  | [slot, r, c] => some ⟨slot.toNat, r.toInt, c.toInt⟩
  | _ => none

/-! ## Strip types (R65, R66, R85) -/

/-- One entry of a position list, raw: die-type, x, y, optional stack-on. -/
structure LayoutFields where
  dieType : Nat
  x : Int
  y : Int
  stackOn : Option (Option Nat)
  deriving DecidableEq, Repr

/-- The entries of a position list, 7 bytes each. -/
def readLayout : Nat → List Byte → Option (List LayoutFields)
  | 0, [] => some []
  | 0, _ :: _ => none
  | n + 1, t :: xLo :: xHi :: yLo :: yHi :: p :: b :: rest =>
    (readLayout n rest).map (⟨t.toNat, int16 xLo xHi, int16 yLo yHi, presence p b.toNat⟩ :: ·)
  | _ + 1, _ => none

/-- SET-STRIP-TYPE: code, and a full strip type or none. -/
structure SetStripTypeArgs where
  code : Nat
  typePresent : Byte
  rows : Nat
  cols : Nat
  split : Nat
  pitch : Nat
  tolerance : Nat
  matchRequired : Byte
  positions : List LayoutFields
  deriving DecidableEq, Repr

/-- A type present needs a position list of 1 to 4 entries (R65); no type is sent with its value bytes 0, the list
empty. A presence byte of 2 or more is read with the structure of a type present, and so needs a list too (DEDUCED,
notes/assumptions/12.md). -/
def readSetStripType : List Byte → Option SetStripTypeArgs
  | code :: p :: rows :: cols :: split :: pLo :: pHi :: tLo :: tHi :: m :: n :: rest =>
    if p.toNat = 0 then
      if rest = [] then
        some ⟨code.toNat, p, rows.toNat, cols.toNat, split.toNat, nat16 pLo pHi, nat16 tLo tHi, m, []⟩
      else none
    else if 1 ≤ n.toNat ∧ n.toNat ≤ 4 then
      (readLayout n.toNat rest).map fun l =>
        ⟨code.toNat, p, rows.toNat, cols.toNat, split.toNat, nat16 pLo pHi, nat16 tLo tHi, m, l⟩
    else none
  | _ => none

/-- Position list entries in range (R63). -/
def layoutEntries : List LayoutFields → Option (List LayoutPos)
  | [] => some []
  | f :: rest =>
    match Quad.ofNumber f.dieType, f.stackOn, layoutEntries rest with
    | some t, some b, some more => some (⟨t, f.x, f.y, b⟩ :: more)
    | _, _, _ => none

/-- Each stack-on names a position numbered below its own, from 1 on (R65). `k` is the number of the list's first
entry. -/
def stacksBelow (k : Nat) : List LayoutPos → Bool
  | [] => true
  | p :: rest => p.stackOn.all (fun b => decide (1 ≤ b ∧ b < k)) && stacksBelow (k + 1) rest

/-- A strip type in the ranges of Table 4-1. -/
def SetStripTypeArgs.checked (a : SetStripTypeArgs) : Option StripType :=
  match flagOf a.matchRequired, layoutEntries a.positions with
  | some m, some l =>
    if 1 ≤ a.rows ∧ a.rows ≤ 8 ∧ 1 ≤ a.cols ∧ a.cols ≤ 40 ∧ 1 ≤ a.split ∧ a.split ≤ a.cols + 1 ∧ 1 ≤ a.pitch then
      some ⟨a.rows, a.cols, a.split, a.pitch, a.tolerance, m, l⟩
    else none
  | _, _ => none

/-- STRIP-LOCK: a code or unlock. -/
def readStripLock : List Byte → Option (Option (Option Nat))
  | [p, c] => some (presence p c.toNat)
  | _ => none

/-- A two-byte number alone: READ-UNITS's first index. -/
def readWord : List Byte → Option Nat
  | [lo, hi] => some (nat16 lo hi)
  | _ => none

/-! ## Lanes, force, log, cell (R119 to R138, R147, R160) -/

/-- A lane mask: bit 0 lane 1, bit 1 lane 2; other bits are ignored on receipt (R197). None is the empty mask. -/
structure LaneMask where
  one : Bool
  two : Bool
  deriving DecidableEq, Repr

def LaneMask.has (m : LaneMask) : Lane → Bool
  | .one => m.one
  | .two => m.two

def laneMask (b : Byte) : LaneMask := ⟨b.toNat.testBit 0, b.toNat.testBit 1⟩

/-- SET-LANE: lane mask, settle interval, threshold, enable. -/
structure SetLaneArgs where
  mask : LaneMask
  settle : Nat
  threshold : Nat
  enable : Byte
  deriving DecidableEq, Repr

def readSetLane : List Byte → Option SetLaneArgs
  | [m, i, t, e] => some ⟨laneMask m, i.toNat, t.toNat, e⟩
  | _ => none

/-- SET-FORCE: lane mask, enable, gain. -/
structure SetForceArgs where
  mask : LaneMask
  enable : Byte
  gain : Nat
  deriving DecidableEq, Repr

def readSetForce : List Byte → Option SetForceArgs
  | [m, e, g] => some ⟨laneMask m, e, g.toNat⟩
  | _ => none

/-- The gain a byte names, coded as an enumeration by the place of its value (DEDUCED, notes/assumptions/31.md). -/
def gainOf : Nat → Option Gain
  | 0 => some .x1 | 1 => some .x4
  | _ => none

/-- SET-LOG: policy, trigger, age timeout. The trigger goes by its number (DEDUCED, notes/assumptions/31.md). -/
structure SetLogArgs where
  policy : Nat
  trigger : Nat
  ageTimeout : Nat
  deriving DecidableEq, Repr

def readSetLog : List Byte → Option SetLogArgs
  | [p, lo, hi, a] => some ⟨p.toNat, nat16 lo hi, a.toNat⟩
  | _ => none

def policyOf : Nat → Option Policy
  | 0 => some .stall | 1 => some .overwrite
  | _ => none

def gatingOf : Nat → Option Gating
  | 0 => some .all | 1 => some .any
  | _ => none

/-! ## Links and conditions (R171 to R185, R195) -/

/-- LOCK-STATION-ID: link, an identity or unlock. -/
structure LockArgs where
  link : Nat
  idPresent : Byte
  id : Text
  deriving DecidableEq, Repr

def readLock : List Byte → Option LockArgs
  | l :: p :: id => if id.length = 8 then some ⟨l.toNat, p, id⟩ else none
  | _ => none

/-- SET-LIMITS: order kind, limit. -/
structure SetLimitsArgs where
  kind : Nat
  limit : Nat
  deriving DecidableEq, Repr

def readSetLimits : List Byte → Option SetLimitsArgs
  | [k, lo, hi] => some ⟨k.toNat, nat16 lo hi⟩
  | _ => none

/-- SET-NOTICES: nine enables in priority order. -/
structure NoticeFlags where
  stationFault : Byte
  cellHeld : Byte
  laneOut : Byte
  unitStarved : Byte
  waferExhausted : Byte
  mountDone : Byte
  log : Byte
  stripDone : Byte
  linkDiscard : Byte
  deriving DecidableEq, Repr

def readNotices : List Byte → Option NoticeFlags
  | [a, b, c, d, e, f, g, h, i] => some ⟨a, b, c, d, e, f, g, h, i⟩
  | _ => none

end Sys2Proof.Machine
end

