-- ==== Sys2Proof/Machine/Access.lean ====
section
/-! DEFINITION. The one way to read and write a lane, table, slot, link, limit or condition of the state. -/

namespace Sys2Proof.Machine

def PerLane.get {α : Type} (t : PerLane α) : Lane → α
  | .one => t.one
  | .two => t.two

def PerLane.set {α : Type} (t : PerLane α) (n : Lane) (v : α) : PerLane α :=
  match n with
  | .one => { t with one := v }
  | .two => { t with two := v }

def PerTable.get {α : Type} (t : PerTable α) : Table → α
  | .a => t.a
  | .b => t.b

def PerTable.set {α : Type} (t : PerTable α) (n : Table) (v : α) : PerTable α :=
  match n with
  | .a => { t with a := v }
  | .b => { t with b := v }

def PerQuad.get {α : Type} (t : PerQuad α) : Quad → α
  | .q0 => t.q0
  | .q1 => t.q1
  | .q2 => t.q2
  | .q3 => t.q3

def PerQuad.set {α : Type} (t : PerQuad α) (n : Quad) (v : α) : PerQuad α :=
  match n with
  | .q0 => { t with q0 := v }
  | .q1 => { t with q1 := v }
  | .q2 => { t with q2 := v }
  | .q3 => { t with q3 := v }

def PerQuad.map {α β : Type} (f : α → β) (t : PerQuad α) : PerQuad β :=
  ⟨f t.q0, f t.q1, f t.q2, f t.q3⟩

def PerLink.get {α : Type} (t : PerLink α) : Link → α
  | .ta => t.ta
  | .tb => t.tb
  | .pk => t.pk
  | .b1 => t.b1
  | .b2 => t.b2
  | .ix => t.ix

def PerLink.set {α : Type} (t : PerLink α) (n : Link) (v : α) : PerLink α :=
  match n with
  | .ta => { t with ta := v }
  | .tb => { t with tb := v }
  | .pk => { t with pk := v }
  | .b1 => { t with b1 := v }
  | .b2 => { t with b2 := v }
  | .ix => { t with ix := v }

def Limits.get (t : Limits) : OrderKind → Nat
  | .loadWafer => t.loadWafer
  | .unloadWafer => t.unloadWafer
  | .step => t.step
  | .pick => t.pick
  | .put => t.put
  | .purge => t.purge
  | .take => t.take
  | .bond => t.bond
  | .loadStrip => t.loadStrip
  | .ejectStrip => t.ejectStrip
  | .abort => t.abort

def Limits.set (t : Limits) (k : OrderKind) (v : Nat) : Limits :=
  match k with
  | .loadWafer => { t with loadWafer := v }
  | .unloadWafer => { t with unloadWafer := v }
  | .step => { t with step := v }
  | .pick => { t with pick := v }
  | .put => { t with put := v }
  | .purge => { t with purge := v }
  | .take => { t with take := v }
  | .bond => { t with bond := v }
  | .loadStrip => { t with loadStrip := v }
  | .ejectStrip => { t with ejectStrip := v }
  | .abort => { t with abort := v }

def Conds.get (t : Conds) : CondId → Cond
  | .stationFault => t.stationFault
  | .cellHeld => t.cellHeld
  | .laneOut => t.laneOut
  | .unitStarved => t.unitStarved
  | .waferExhausted => t.waferExhausted
  | .mountDone => t.mountDone
  | .log => t.log
  | .stripDone => t.stripDone
  | .linkDiscard => t.linkDiscard

def Conds.set (t : Conds) (c : CondId) (v : Cond) : Conds :=
  match c with
  | .stationFault => { t with stationFault := v }
  | .cellHeld => { t with cellHeld := v }
  | .laneOut => { t with laneOut := v }
  | .unitStarved => { t with unitStarved := v }
  | .waferExhausted => { t with waferExhausted := v }
  | .mountDone => { t with mountDone := v }
  | .log => { t with log := v }
  | .stripDone => { t with stripDone := v }
  | .linkDiscard => { t with linkDiscard := v }

/-- The nine conditions in priority order (Table 11-2). -/
def CondId.all : List CondId :=
  [.stationFault, .cellHeld, .laneOut, .unitStarved, .waferExhausted, .mountDone, .log, .stripDone, .linkDiscard]

/-- The eleven order kinds in ascending station frame kind (Table 11-8). -/
def OrderKind.all : List OrderKind :=
  [.loadWafer, .unloadWafer, .step, .pick, .put, .purge, .take, .bond, .loadStrip, .ejectStrip, .abort]

/-- The other lane. -/
def otherLane : Lane → Lane
  | .one => .two
  | .two => .one

/-- A lane's bonder link (chapter 6). -/
def bonderLink : Lane → Link
  | .one => .b1
  | .two => .b2

/-- A table's station link (3.1). -/
def tableLink : Table → Link
  | .a => .ta
  | .b => .tb

/-! Replacing one record by a function of it. -/

def State.updSlot (i : SlotId) (f : Slot → Slot) (s : State) : State :=
  { s with slots := s.slots.set i (f (s.slots.get i)) }

def State.updTable (t : Table) (f : TableRec → TableRec) (s : State) : State :=
  { s with tables := s.tables.set t (f (s.tables.get t)) }

def State.updLane (n : Lane) (f : LaneRec → LaneRec) (s : State) : State :=
  { s with lanes := s.lanes.set n (f (s.lanes.get n)) }

def State.updMonitor (n : Lane) (f : Monitor → Monitor) (s : State) : State :=
  { s with monitors := s.monitors.set n (f (s.monitors.get n)) }

def State.updWait (n : Lane) (f : Wait → Wait) (s : State) : State :=
  { s with control := { s.control with waits := s.control.waits.set n (f (s.control.waits.get n)) } }

def State.updLink (l : Link) (f : LinkRec → LinkRec) (s : State) : State :=
  { s with links := s.links.set l (f (s.links.get l)) }

/-- A bin bank's entries (R24). -/
def ClassTables.bank (c : ClassTables) : Bank → List (Option Nat)
  | .zero => c.bank0
  | .one => c.bank1

def ClassTables.setBank (c : ClassTables) (b : Bank) (v : List (Option Nat)) : ClassTables :=
  match b with
  | .zero => { c with bank0 := v }
  | .one => { c with bank1 := v }

/-- The site of a slot at a row and column, when it is on the grid. -/
def Slot.site (sl : Slot) (r c : Nat) : Option Site := (sl.sites[r]?).bind (·[c]?)

/-- Rewrite the site at a row and column. -/
def Slot.updSite (r c : Nat) (f : Site → Site) (sl : Slot) : Slot :=
  { sl with sites := sl.sites.modify r (fun row => row.modify c f) }

/-- The number of a slot's sites in a state: its state count (R3). -/
def Slot.count (sl : Slot) (st : SiteState) : Nat :=
  (sl.sites.map (fun row => (row.filter (fun x => x.state = st)).length)).sum

/-- The token at a place (R88: at most one). -/
def State.tokenAt (s : State) (p : Place) : Option Token := s.tokens.find? (fun t => t.place = p)

/-- The unit at an index of the unit table. -/
def State.unit (s : State) (i : Nat) : Option StripUnit := s.strip.units[i]?

/-- Position number `p` of a unit, counted from 1. -/
def StripUnit.position (u : StripUnit) (p : Nat) : Option Position :=
  match p with
  | 0 => none
  | k + 1 => u.positions[k]?

end Sys2Proof.Machine
end

