-- ==== Sys2Proof/Machine/Flags.lean ====
section
/-! DEFINITION. What is read from the state at each use and held nowhere: usability, classes, eligibility, next
positions, requests, the dispense interval set, verdicts and the LEVEL cause. -/

namespace Sys2Proof.Machine

/-! ## Class tables and recipes (chapter 2) -/

/-- The class of a bin through the active bank; none is REJECT (R24). -/
def ClassTables.classOf (c : ClassTables) (bin : Nat) : Option Nat := ((c.bank c.active)[bin]?).join

/-- The group of a class (R28). -/
def ClassTables.groupOf (c : ClassTables) (cls : Nat) : Option Group := c.groups[cls]?

/-- One mark against its setting (Table 2-1). -/
def MarkRule.allows (r : MarkRule) (present : Bool) : Bool :=
  match r with
  | .require => present
  | .forbid => !present
  | .ignore => true

/-- A site's marks against the mark filter (R31, R58). -/
def MarkFilter.allows (f : MarkFilter) (m : Marks) : Bool :=
  f.edge.allows m.edge && f.hold.allows m.hold && f.retest.allows m.retest && f.visual.allows m.visual

/-- Whether a cycle index is in the interval set of a dispense fine value (R39, Table 2-2): the components
16, 8, 4, 2 and 1 of the fine value own the odd indexes, those twice an odd number, four times, eight
times, and 16. -/
def extraQuantum (fine : Nat) (index : Nat) : Bool :=
  (fine.testBit 4 && index % 2 == 1) || (fine.testBit 3 && index % 4 == 2) ||
  (fine.testBit 2 && index % 8 == 4) || (fine.testBit 1 && index % 16 == 8) || (fine.testBit 0 && index % 32 == 16)

/-- The quanta of a BOND (R39). -/
def Recipe.quanta (r : Recipe) (index : BitVec 5) : Nat :=
  r.base + (if extraQuantum r.fine index.toNat then 1 else 0)

/-! ## The site search (R57, R58) -/

/-- The slot mounted for a die type on a table whose FAULTED flag is clear (R57). -/
def State.searchedSlot (s : State) (t : DieType) : Option SlotId :=
  [Quad.q0, .q1, .q2, .q3].find? fun i =>
    decide ((s.slots.get i).state = .mounted) && decide ((s.slots.get i).dieType = t) &&
      [Table.a, .b].any fun k => decide ((s.tables.get k).slot = some i) && !(s.tables.get k).faulted

/-- The table a slot is bound to (Table 3-1). -/
def State.tableOfSlot (s : State) (i : SlotId) : Option Table :=
  [Table.a, .b].find? fun k => decide ((s.tables.get k).slot = some i)

/-- A site met on a search's walk, with its place. -/
structure WalkSite where
  row : Nat
  col : Nat
  site : Site
  deriving DecidableEq, Repr

/-- One row in serpentine order: ascending columns when the row number is even, descending when odd. -/
def serpentineRow (r : Nat) (row : List Site) : List WalkSite :=
  let l := row.zipIdx.map fun p => ⟨r, p.2, p.1⟩
  if r % 2 = 0 then l else l.reverse

/-- The sites of a search in order, from the floor row on (R58). -/
def Slot.walk (sl : Slot) : List WalkSite :=
  (sl.sites.zipIdx.drop sl.floorRow).flatMap fun p => serpentineRow p.2 p.1

/-- Base-eligible (R58): PRESENT, a class in the acceptance set, and marks that satisfy the filter. -/
def baseEligible (c : ClassTables) (r : Recipe) (x : Site) : Bool :=
  decide (x.state = .present) &&
  (match c.classOf x.bin with
   | none => false
   | some k => r.acceptance.getLsbD k) &&
  r.filter.allows x.marks

/-- The group test of a search: `some g` when the unit asks for group g, none when every site passes (R58). -/
def groupPasses (c : ClassTables) (wanted : Option Group) (x : Site) : Bool :=
  match wanted with
  | none => true
  | some g => ((c.classOf x.bin).bind c.groupOf) = some g

/-! ## Units and next positions (R74 to R82) -/

/-- The final position states (R75). -/
def PosState.final : PosState → Bool
  | .placed | .suspect | .uncertain | .abandoned => true
  | .empty | .allocated => false

/-- A unit is resolved (R78). -/
def StripUnit.resolved (u : StripUnit) : Bool :=
  decide (u.state = .skipped) || decide (u.state = .voided) || u.positions.all (·.state.final)

/-- A position may be filled (R81): EMPTY, and its base, if any, PLACED. -/
def StripUnit.fillable (u : StripUnit) (p : Position) : Bool :=
  decide (p.state = .empty) &&
  (match p.stackOn with
   | none => true
   | some b => (u.position b).any fun q => decide (q.state = .placed))

/-- The first fillable position number of a unit, counted from 1. -/
def StripUnit.firstFillable (u : StripUnit) : Option Nat :=
  (u.positions.findIdx? u.fillable).map (· + 1)

/-- The unresolved units of a lane in lane order (R79, R80). -/
def Strip.laneUnits (t : Strip) (n : Lane) : List StripUnit :=
  t.units.filter fun u => decide (u.lane = n) && !u.resolved

/-- The working units of a lane (R80). -/
def Strip.workingUnits (t : Strip) (n : Lane) : List StripUnit :=
  match t.laneUnits n with
  | [] => []
  | [u] => [u]
  | u :: v :: _ => if u.positions.any (fun p => decide (p.state = .empty)) then [u] else [u, v]

/-- The next position of a lane (R81). -/
def Strip.nextPosition (t : Strip) (n : Lane) : Option Dest :=
  (t.workingUnits n).findSome? fun u => u.firstFillable.map fun p => ⟨u.index, p⟩

/-- Matching applies to a unit (R74). -/
def Strip.matching (t : Strip) (u : StripUnit) : Bool :=
  (t.layout.any (·.matchRequired)) && !u.relaxed

/-- The number of units in a state (R82, R85). -/
def Strip.countUnits (t : Strip) (st : UnitState) : Nat :=
  (t.units.filter fun u => decide (u.state = st)).length

/-! ## Lanes, arbiter and production control -/

/-- A lane is usable (R123). -/
def State.usable (s : State) (n : Lane) : Bool :=
  (s.lanes.get n).enable && !(s.lanes.get n).degraded && decide ((s.links.get (bonderLink n)).state = .up)

/-- A lane presents a request to the arbiter (R91). -/
def State.requests (s : State) (n : Lane) : Bool :=
  decide (s.control.cell = .running) && s.usable n && decide ((s.lanes.get n).nest = .empty) &&
  (s.strip.nextPosition n).isSome && (!(s.control.waits.get n).waiting || s.searchAgain.get n)

/-- The lane the arbiter chooses (R92). -/
def State.chosenLane (s : State) : Option Lane :=
  match s.requests .one, s.requests .two with
  | false, false => none
  | true, false => some .one
  | false, true => some .two
  | true, true =>
    let idle1 := decide ((s.lanes.get .one).collet = .idle)
    let idle2 := decide ((s.lanes.get .two).collet = .idle)
    if idle1 && !idle2 then some .one
    else if idle2 && !idle1 then some .two
    else some (otherLane s.picker.lastLane)

/-- No order is outstanding on a link and it is UP, so an order may be sent (R169). -/
def State.linkFree (s : State) (l : Link) : Bool :=
  decide ((s.links.get l).state = .up) && (s.links.get l).outstanding.isNone

/-! ## Placement judgement (R115, R136) -/

/-- The offset verdict is FAULT (R115). -/
def offsetFault (r : Recipe) (dx dy rotation : Int) (seen : Bool) : Bool :=
  !seen || decide (r.offsetLimit < dx.natAbs) || decide (r.offsetLimit < dy.natAbs) ||
    decide (r.rotationLimit < rotation.natAbs)

/-- The force verdict at BONDED (Table 7-3): the first row that holds. -/
def Monitor.verdict (m : Monitor) (r : Recipe) : ForceVerdict :=
  match m.state with
  | .unwatched => .notMonitored
  | .spoiled => .unmeasured
  | .dwell | .idle =>
    if m.count = 0 then .unmeasured
    else if m.dwellMin.any (· < r.windowLow) then .low
    else if m.dwellMax.any (r.windowHigh < ·) then .high
    else .good

/-- The placement result (Table 6-5). -/
def bondResult (fault : Bool) (v : ForceVerdict) : BondResult :=
  if fault then .suspect
  else match v with
    | .good | .notMonitored => .placed
    | .low | .high | .unmeasured => .suspect

/-! ## Placement log -/

/-- The LEVEL cause (R148). -/
def Log.level (l : Log) : Bool := decide (l.trigger ≤ l.records.length)

/-- The age timer after an event that starts or restarts it (R149). -/
def Log.freshAge (l : Log) : Option Nat :=
  if 1 ≤ l.records.length ∧ l.records.length < l.trigger then some (Config.ticksPer100ms * l.ageTimeout) else none

/-- The log has room for one more reservation (R143). -/
def Log.roomToReserve (l : Log) : Bool := decide (l.records.length + l.reserved < Config.logCapacity)

/-! ## Command link -/

/-- A reply waits or is being sent (R188). -/
def HostLink.replyWaits (h : HostLink) : Bool :=
  h.tx.any fun r => match r with
    | .reply .. => true
    | _ => false

/-- STARTED waits or is being sent (R188, R196). -/
def HostLink.startedWaits (h : HostLink) : Bool :=
  h.tx.any fun r => match r with
    | .started .. => true
    | _ => false

/-- A time left given in its interval's unit (R197, notes/assumptions/5.md). -/
def inUnits (unit left : Nat) : Nat :=
  if left % unit = 0 then left / unit
  else left / unit + (if Config.countsPartialUnit unit left then 1 else 0)

end Sys2Proof.Machine
end

