-- ==== Sys2Proof/Machine/Ops.lean ====
section
/-! DEFINITION. The shared operations: conditions and notices, orders on links, the log, units and tokens, the
grant, what comes about by itself after an event, and a link's entry into FAULT. -/

namespace Sys2Proof.Machine

/-! ## Conditions and notices (R190, R193) -/

/-- A record is the waiting notice of a condition. -/
def TxRecord.isNotice (c : CondId) : TxRecord → Bool
  | .notice d _ _ => decide (d = c)
  | _ => false

/-- Make a notice: it takes the notice sequence and joins the records on CTX; an earlier notice of the same
condition that waits and is not the record being sent is withdrawn (R190). -/
def HostLink.makeNotice (c : CondId) (detail : List Byte) (h : HostLink) : HostLink :=
  let n := TxRecord.notice c h.sequence detail
  { h with
    sequence := h.sequence + 1
    tx := match h.tx with
      | [] => [n]
      | first :: rest => first :: rest.filter (fun r => !r.isNotice c) ++ [n] }

/-- Raise a condition (R193): when it was not pending it becomes pending and, if its notice is enabled, a
notice is made; when it was pending only its detail is replaced. -/
def raise (d : Detail) (s : State) : State :=
  let c := s.conds.get d.cond
  let t := { s with conds := s.conds.set d.cond { c with detail := some d } }
  if c.detail.isNone && c.enable then { t with host := t.host.makeNotice d.cond d.bytes } else t

/-- A condition ceases and loses its detail (R193). -/
def cease (c : CondId) (s : State) : State :=
  { s with conds := s.conds.set c { s.conds.get c with detail := none } }

/-- Bring the LOG condition to the causes that hold (R148, R149, R193). -/
def syncLog (s : State) : State :=
  if s.log.level || s.log.aged then raise (.log s.log.level s.log.aged s.log.records.length) s
  else cease .log s

/-- The detail of UNIT-STARVED for a lane (R163). -/
def starvedDetail (n : Lane) (s : State) : Detail :=
  let w := s.control.waits.get n
  let u := w.position.bind fun d => s.unit d.unit
  .unitStarved n ((u.map (·.row)).getD 0) ((u.map (·.col)).getD 0) ((w.position.map (·.pos)).getD 0) w.reason

/-- Bring UNIT-STARVED to the lanes still starved after one stopped being so (R163, R193). -/
def syncStarved (s : State) : State :=
  match (s.control.waits.get .one).starved, (s.control.waits.get .two).starved with
  | false, false => cease .unitStarved s
  | true, false => raise (starvedDetail .one s) s
  | false, true => raise (starvedDetail .two s) s
  | true, true => s

/-- Send a reply: the command's kind with the reply mark, its tag, the status and the results (R189). -/
def reply (kind : Nat) (tag : Byte) (body : List Byte) (s : State) : State :=
  { s with host := { s.host with
      tx := s.host.tx ++ [.reply (if kind ≤ 126 then u8 (kind + 128) else 254) tag body] } }

/-! ## Orders on station links (R169, R184) -/

/-- Send an order: it takes the link's next number, becomes outstanding, starts the watchdog with its kind's
limit, and goes out with its check, inverted when the test countdown stands at 1. -/
def sendOrder (l : Link) (k : OrderKind) (params : List Byte) (s : State) : State :=
  let r := s.links.get l
  let check := crc8 (r.nextNumber :: k.code :: params)
  { s with
    links := s.links.set l
      { r with
        nextNumber := r.nextNumber + 1
        outstanding := some ⟨k, r.nextNumber⟩
        watchdog := some (Config.ticksPerMs * s.limits.get k)
        test := r.test - 1 }
    wire := s.wire ++ [.frame l r.nextNumber k.code params (if r.test = 1 then ~~~check else check)] }

/-- An order ends: none is outstanding and the watchdog stops (R169). -/
def endOrder (l : Link) (s : State) : State :=
  s.updLink l fun r => { r with outstanding := none, watchdog := none }

/-- Send CALL: number 0, no order (R172). The next CALL is due 100 ms later. -/
def sendCall (l : Link) (s : State) : State :=
  { s.updLink l (fun r => { r with callTimer := some Config.callInterval }) with
    wire := s.wire ++ [.frame l 0 1 [] (crc8 [0, 1])] }

/-! ## Selection changes (R60, R61) -/

/-- A selection change sets the search-again mark of every waiting lane. -/
def selectionChange (s : State) : State :=
  { s with searchAgain :=
      ⟨s.searchAgain.one || s.control.waits.one.waiting, s.searchAgain.two || s.control.waits.two.waiting⟩ }

/-- Clear the exhausted flag of every slot a condition names (R22). -/
def clearExhausted (p : Slot → Bool) (s : State) : State :=
  { s with slots := s.slots.map fun sl => if p sl then { sl with exhausted := false } else sl }

/-! ## Promotion (R34) -/

/-- Promote one die type when its recipe is staged. -/
def promoteType (t : DieType) (s : State) : State :=
  match s.recipes.staged.get t with
  | none => s
  | some r =>
    clearExhausted (fun sl => decide (sl.dieType = t))
      { s with recipes :=
          { active := s.recipes.active.set t (some r)
            staged := s.recipes.staged.set t none
            generation := s.recipes.generation.set t (s.recipes.generation.get t + 1)
            cycle := ⟨s.recipes.cycle.one.set t 0, s.recipes.cycle.two.set t 0⟩ } }

/-- A die type has a staged recipe. -/
def RecipeStore.anyStaged (r : RecipeStore) : Bool :=
  r.staged.q0.isSome || r.staged.q1.isSome || r.staged.q2.isSome || r.staged.q3.isSome

/-- A promotion of every staged type; of at least one type it is a selection change. -/
def promote (s : State) : State :=
  let t := promoteType .q3 (promoteType .q2 (promoteType .q1 (promoteType .q0 s)))
  if s.recipes.anyStaged then selectionChange t else t

/-! ## Units (R75 to R78) -/

/-- Abandon, in ascending number, each EMPTY position whose base ended SUSPECT, UNCERTAIN or ABANDONED (R76).
A stack-on names a lower position, so one pass reaches every stack. -/
def abandonStacked (done : List Position) : List Position → List Position
  | [] => done
  | p :: rest =>
    let base := p.stackOn.bind fun b => done[b - 1]?
    let lost := base.any fun q => decide (q.state = .suspect) || decide (q.state = .uncertain) || decide (q.state = .abandoned)
    abandonStacked (done ++ [if decide (p.state = .empty) && lost then { p with state := .abandoned } else p]) rest

/-- The unit's state and group after a position change: back to OPEN with the group released when every
position is EMPTY again (R77), COMPLETE or FLAWED when every position is final (R78). -/
def StripUnit.settled (u : StripUnit) : StripUnit :=
  if u.state = .assembling then
    if u.positions.all fun p => decide (p.state = .empty) then { u with state := .opened, group := none }
    else if u.positions.all (·.state.final) then
      { u with state := if u.positions.all fun p => decide (p.state = .placed) then .complete else .flawed }
    else u
  else u

/-- Give a position of a unit a state, with the consequences of R76 to R78. -/
def StripUnit.setPosition (p : Nat) (st : PosState) (u : StripUnit) : StripUnit :=
  { u with positions :=
      abandonStacked [] (u.positions.modify (p - 1) fun q => { q with state := st }) }.settled

/-- Rewrite one unit of the unit table. -/
def State.updUnit (i : Nat) (f : StripUnit → StripUnit) (s : State) : State :=
  { s with strip := { s.strip with units := s.strip.units.modify i f } }

/-- The state of the position a token is destined to. -/
def State.destState (s : State) (d : Dest) : Option PosState :=
  (s.unit d.unit).bind fun u => (u.position d.pos).map (·.state)

/-- A token's position takes a state when the token has a destination and the position is ALLOCATED; a position
of a voided unit stays ABANDONED (R89). -/
def settlePosition (t : Token) (st : PosState) (s : State) : State :=
  match t.dest with
  | none => s
  | some d => if s.destState d = some .allocated then s.updUnit d.unit (·.setPosition d.pos st) else s

/-! ## Strip done and eject (R82, R83) -/

/-- Send EJECT-STRIP when the strip is ACTIVE and done, the cell RUNNING and IX free (R83). -/
def ejectStripDue (s : State) : State :=
  if s.strip.state = .active ∧ s.strip.done ∧ s.control.cell = .running ∧ s.linkFree .ix then
    sendOrder .ix .ejectStrip [] { s with strip := { s.strip with state := .ejecting } }
  else s

/-- Make an ACTIVE strip done when every unit is resolved and no token exists (R82), raise STRIP-DONE, and send
EJECT-STRIP at once in a RUNNING cell. -/
def stripDoneDue (s : State) : State :=
  if s.strip.state = .active ∧ s.strip.done = false ∧ s.strip.units.all (·.resolved) ∧ s.tokens = [] then
    ejectStripDue (raise
      (.stripDone s.strip.stripId s.strip.verdict (s.strip.countUnits .complete) (s.strip.countUnits .flawed)
        (s.strip.countUnits .skipped) (s.strip.countUnits .voided))
      { s with strip := { s.strip with done := true } })
  else s

/-! ## Log, tokens and dice (R89, R142 to R146) -/

/-- Store a record (R145, R146): at the tail while there is room; else in place of the newest, with the
overwrite count one more. -/
def Log.store (p : Placement) (l : Log) : Log :=
  if l.records.length < Config.logCapacity then { l with records := l.records ++ [p] }
  else { l with records := l.records.dropLast ++ [p], overwritten := min 65535 (l.overwritten + 1) }

/-- The strip fields of a token's record (R142): from the bond context when the owning rule gives one, else from
the destination, else absent. -/
def stripFields (t : Token) (ctx : Option BondContext) (s : State) : Option StripFields :=
  let id := s.strip.stripId.getD (List.replicate 12 0)
  match ctx with
  | some c => some ⟨id, c.row, c.col, c.pos⟩
  | none =>
    match t.dest with
    | none => none
    | some d => (s.unit d.unit).map fun u => ⟨id, u.row, u.col, d.pos⟩

/-- Create a token's placement record (R142): serial, fields, store, reservation used (R145), disposal count
(R21), age timer and LOG condition. -/
def createRecord (t : Token) (fate : Fate) (lane : Option Lane) (ctx : Option BondContext)
    (bond : Option BondFields) (s : State) : State :=
  let p : Placement :=
    { serial := s.log.serial, fate := fate, lane := lane, slot := t.slot
      waferId := (s.slots.get t.slot).waferId, dieType := t.dieType, row := t.row, col := t.col, bin := t.bin
      cls := t.cls, generation := t.generation, strip := stripFields t ctx s, bond := bond }
  let log := s.log.store p
  let log := { log with serial := s.log.serial + 1, reserved := if t.reserved then s.log.reserved - 1 else s.log.reserved }
  syncLog { s.updSlot t.slot (fun sl => { sl with disposal := sl.disposal + 1 }) with
    log := { log with ageTimer := log.freshAge } }

/-- Remove a token from the pool; the strip controller checks whether the strip is done (R89). -/
def removeToken (t : Token) (s : State) : State :=
  stripDoneDue { s with tokens := s.tokens.filter fun u => decide (u.place ≠ t.place) }

/-- Settle a die whose site is TAKEN: its position, its record, its token (R89). -/
def settleDie (t : Token) (fate : Fate) (lane : Option Lane) (ctx : Option BondContext)
    (bond : Option BondFields) (st : PosState) (s : State) : State :=
  removeToken t (createRecord t fate lane ctx bond (settlePosition t st s))

/-- Return a token's reservation (R144). -/
def returnReservation (t : Token) (s : State) : State :=
  if t.reserved then { s with log := { s.log with reserved := s.log.reserved - 1 } } else s

/-- Move a token to a place. -/
def moveToken (t : Token) (p : Place) (s : State) : State :=
  { s with tokens := s.tokens.map fun u => if u.place = t.place then { u with place := p } else u }

/-- The state of a token's site. -/
def State.siteState (s : State) (t : Token) : Option SiteState :=
  ((s.slots.get t.slot).site t.row t.col).map (·.state)

/-- A token's site takes a state, with attempts 0 (R17, R18, R19). -/
def setSite (t : Token) (st : SiteState) (s : State) : State :=
  s.updSlot t.slot fun sl => sl.updSite t.row t.col fun x => { x with state := st, attempts := 0 }

/-- End a token whose die was never lifted: the site returns to PRESENT and may lower the floor row (R17, R20), the
reservation is returned, the position returns to EMPTY, the token is removed; a selection change (R56). -/
def releaseToken (t : Token) (s : State) : State :=
  let s := s.updSlot t.slot fun sl =>
    { sl.updSite t.row t.col (fun x => { x with state := .present, attempts := 0 }) with
      floorRow := min sl.floorRow t.row }
  removeToken t (settlePosition t .empty (returnReservation t (selectionChange s)))

/-- End a token whose site is given up as MISSED (R19, R98). -/
def missToken (t : Token) (s : State) : State :=
  removeToken t (settlePosition t .empty (returnReservation t (setSite t .missed s)))

/-- The picker's state. -/
def setPicker (p : PickerState) (s : State) : State := { s with picker := { s.picker with state := p } }

/-- A STEP ended without its STEPPED (R56, R96, R102): the picker's token, if any, is released and the picker
becomes IDLE. -/
def endStep (s : State) : State :=
  if s.picker.state = .stepping then
    setPicker .idle (match s.tokenAt .picker with
      | none => s
      | some t => releaseToken t s)
  else s

/-! ## Waiting (R162, R163) -/

/-- A lane's waiting ends. -/
def endWait (n : Lane) (s : State) : State :=
  if (s.control.waits.get n).waiting then
    let t := s.updWait n fun _ => .reset
    if (s.control.waits.get n).starved then syncStarved t else t
  else s

/-- A lane's search failed (R162): it enters waiting, or goes on waiting with the new reason and the timer it
had; a starved lane whose reason changes raises UNIT-STARVED again (R163). The timer of a starved lane, stopped at its
expiry, stays stopped, although R94 read alone would start it (DEDUCED, notes/assumptions/32.md). -/
def enterWait (n : Lane) (r : WaitReason) (s : State) : State :=
  let w := s.control.waits.get n
  if w.waiting then
    let t := s.updWait n fun w => { w with reason := some r, position := s.strip.nextPosition n }
    if w.starved && decide (w.reason ≠ some r) then raise (starvedDetail n t) t else t
  else
    s.updWait n fun _ =>
      { waiting := true, reason := some r, position := s.strip.nextPosition n
        timer := some (Config.ticksPer100ms * s.control.timeout), starved := false }

/-- The cell enters HOLDING: the cause is recorded and both lanes' waiting ends (R155, R157). -/
def enterHolding (c : HoldCause) (s : State) : State :=
  endWait .two (endWait .one { s with control := { s.control with cell := .holding, holdCause := some c } })

/-! ## What comes about by itself: the owners -/

/-- Send UNLOAD-WAFER when it is wanted, no picker token names a RESERVED site of the slot, and the link is UP and
free (R50). -/
def unloadDue (k : Table) (s : State) : State :=
  let r := s.tables.get k
  let held := (s.tokenAt .picker).any fun t => decide (r.slot = some t.slot) && decide (s.siteState t = some .reserved)
  if r.unloadWanted ∧ held = false ∧ s.linkFree (tableLink k) then
    sendOrder (tableLink k) .unloadWafer []
      (s.updTable k fun r => { r with state := .unloading, unloadWanted := false, ending := some .dismounted })
  else s

/-- While STOPPING with the bonder link not UP, a token in the nest is disposed of as UNKNOWN and the nest stays
BLOCKED with no token (R125). -/
def nestLostDue (n : Lane) (s : State) : State :=
  if s.control.cell = .stopping ∧ (s.links.get (bonderLink n)).state ≠ .up then
    match s.tokenAt (.nest n) with
    | none => s
    | some t =>
      (settleDie t .unknown (some n) none none .empty s).updLane n fun r =>
        { r with nest := .blocked, settleTimer := none }
  else s

/-- The nest wants a purge (R109). -/
def State.nestToPurge (s : State) (n : Lane) : Bool :=
  match (s.lanes.get n).nest with
  | .blocked => true
  | .settling | .ready => decide (s.control.cell = .stopping)
  | .empty | .receiving => false

/-- Send PURGE with source NEST when the nest wants it, the collet is IDLE and the link UP (R109). -/
def nestPurgeDue (n : Lane) (s : State) : State :=
  if s.nestToPurge n ∧ (s.lanes.get n).collet = .idle ∧ s.linkFree (bonderLink n) then
    sendOrder (bonderLink n) .purge [PurgeSource.nest.code]
      (s.updLane n fun r => { r with nest := .blocked, settleTimer := none, collet := .purging, purge := some .nest })
  else s

/-- Send TAKE when the nest is READY, the collet IDLE and the cell RUNNING or HOLDING (R111), on a free link
(R169). -/
def takeDue (n : Lane) (s : State) : State :=
  if (s.lanes.get n).nest = .ready ∧ (s.lanes.get n).collet = .idle ∧
      (s.control.cell = .running ∨ s.control.cell = .holding) ∧ s.linkFree (bonderLink n) then
    sendOrder (bonderLink n) .take [] (s.updLane n fun r => { r with collet := .taking })
  else s

/-- The owners of the strip, the tables and the lanes act on what the event has made due, in the model's order (DESIGN
CHOICE, notes/assumptions/3.md): of two nest tokens lost in one event (R125) lane 1's is recorded first. -/
def owners (s : State) : State :=
  takeDue .two (nestPurgeDue .two (takeDue .one (nestPurgeDue .one (nestLostDue .two (nestLostDue .one
    (unloadDue .b (unloadDue .a (ejectStripDue (stripDoneDue s)))))))))

/-! ## What comes about by itself: production control -/

/-- A lane has become unusable since the state `s0` at the event's start. -/
def becameUnusable (s0 s : State) (n : Lane) : Bool := s0.usable n && !s.usable n

/-- A link has left UP since the state `s0` at the event's start. -/
def leftUp (s0 s : State) (l : Link) : Bool :=
  decide ((s0.links.get l).state = .up) && decide ((s.links.get l).state ≠ .up)

/-- The automatic holds of a RUNNING cell (R157): PK or IX leaving UP; a lane becoming unusable under ALL, or
under ANY with the other unusable. -/
def autoHold (s0 s : State) : State :=
  if s.control.cell = .running then
    if leftUp s0 s .pk || leftUp s0 s .ix then enterHolding .link s
    else
      let out1 := becameUnusable s0 s .one
      let out2 := becameUnusable s0 s .two
      match s.control.gating with
      | .all => if out1 || out2 then enterHolding .lane s else s
      | .any => if (out1 && !s.usable .two) || (out2 && !s.usable .one) then enterHolding .lane s else s
  else s

/-- Under ANY with an ACTIVE strip and exactly one lane usable, every OPEN unit of the other lane passes to it
(R161). -/
def reassignDue (s : State) : State :=
  if s.control.gating = .any ∧ s.strip.state = .active ∧ s.usable .one ≠ s.usable .two then
    let able : Lane := if s.usable .one then .one else .two
    { s with strip := { s.strip with units := s.strip.units.map fun u =>
        if u.state = .opened then { u with lane := able } else u } }
  else s

/-- A lane whose next position is no longer the waited one ends its waiting (R162). -/
def endWaitDue (n : Lane) (s : State) : State :=
  if (s.control.waits.get n).waiting ∧ (s.control.waits.get n).position ≠ s.strip.nextPosition n then endWait n s
  else s

/-- A HOLDING cell with no token and no order on IX becomes HELD and raises CELL-HELD (R156). -/
def heldDue (s : State) : State :=
  if s.control.cell = .holding ∧ s.tokens = [] ∧ (s.links.get .ix).outstanding = none then
    raise (.cellHeld s.control.holdCause) { s with control := { s.control with cell := .held } }
  else s

/-- No order is outstanding on any station link. -/
def State.quiet (s : State) : Bool :=
  [Link.ta, .tb, .pk, .b1, .b2, .ix].all fun l => (s.links.get l).outstanding.isNone

/-- A STOPPING cell with no token and no order outstanding becomes STOPPED (R159). -/
def stoppedDue (s : State) : State :=
  if s.control.cell = .stopping ∧ s.tokens = [] ∧ s.quiet then
    { s with control := { s.control with cell := .stopped } }
  else s

/-- Production control takes the event (R156, R157, R159, R161, R162). -/
def control (s0 s : State) : State :=
  stoppedDue (heldDue (endWaitDue .two (endWaitDue .one (reassignDue (autoHold s0 s)))))

/-! ## What comes about by itself: new work -/

/-- Send LOAD-STRIP when the strip state is NONE, the cell RUNNING and IX UP and free (R68). -/
def loadStripDue (s : State) : State :=
  if s.strip.state = .none ∧ s.control.cell = .running ∧ s.linkFree .ix then
    sendOrder .ix .loadStrip [] { s with strip := { s.strip with state := .loading } }
  else s

/-- The end of a site search (R59). -/
inductive SearchResult where
  | found (slot : SlotId) (row col : Nat) (site : Site) (cls : Nat) (group : Group)
  | unmounted
  | noDie (slot : SlotId)
  | groupOnly
  deriving DecidableEq, Repr

/-- The site search for a die type and a unit's wanted group (R57 to R59). -/
def search (t : DieType) (wanted : Option Group) (s : State) : SearchResult :=
  match s.searchedSlot t with
  | none => .unmounted
  | some i =>
    let base : List WalkSite := match s.recipes.active.get t with
      | none => []
      | some r => (s.slots.get i).walk.filter fun w => baseEligible s.classes r w.site
    match base.find? fun w => groupPasses s.classes wanted w.site with
    | some w => .found i w.row w.col w.site ((s.classes.classOf w.site.bin).getD 0)
        (((s.classes.classOf w.site.bin).bind s.classes.groupOf).getD .q0)
    | none => if base.isEmpty then .noDie i else .groupOnly

/-- The floor row advances past every row that holds no PRESENT site (R20). -/
def Slot.advanceFloor (sl : Slot) : Slot :=
  { sl with floorRow := sl.floorRow +
      ((sl.sites.drop sl.floorRow).takeWhile fun row => row.all fun x => decide (x.state ≠ .present)).length }

/-- The end of a grant: no room in the log, a failed search, or a token created. -/
inductive GrantResult where
  | noRoom
  | failed (s : State)
  | created (s : State)

/-- A failed search's effect (R59, R94): NO-DIE sets a clear exhausted flag and raises WAFER-EXHAUSTED; the lane
enters waiting. The reservation given at the first step is back in the log. -/
def searchFailed (n : Lane) (t : DieType) (r : SearchResult) (s : State) : State :=
  match r with
  | .noDie i =>
    let s' :=
      if (s.slots.get i).exhausted then s
      else raise (.waferExhausted i t) (s.updSlot i fun sl => { sl with exhausted := true })
    enterWait n .noDie s'
  | .groupOnly => enterWait n .group s
  | .unmounted | .found .. => enterWait n .unmounted s

/-- Matching's effect on the granted unit: OPEN becomes ASSEMBLING, and a unit under matching with no group takes
the die's group (R77, R95). -/
def StripUnit.granted (matching : Bool) (g : Group) (p : Nat) (u : StripUnit) : StripUnit :=
  { u with
    positions := u.positions.modify (p - 1) fun q => { q with state := .allocated }
    state := if u.state = .opened then .assembling else u.state
    group := if matching && u.group.isNone then some g else u.group }

/-- The table coordinates of a site as STEP's parameters (R54). -/
def stepParams (sl : Slot) (r c : Nat) : List Byte := i16 (r + sl.rowOffset) ++ i16 (c + sl.colOffset)

/-- Create the token of a successful grant (R95). -/
def createToken (n : Lane) (d : Dest) (t : DieType) (u : StripUnit) (i : SlotId) (r c : Nat) (x : Site) (cls : Nat)
    (g : Group) (s : State) : State :=
  let stall := decide (s.log.policy = .stall)
  let token : Token :=
    { slot := i, row := r, col := c, bin := x.bin, cls := cls, group := g, dieType := t
      generation := s.recipes.generation.get t, lane := n, dest := some d, place := .picker, reserved := stall }
  let s := s.updSlot i fun sl =>
    { (sl.updSite r c fun x => { x with state := .reserved, attempts := 0 }).advanceFloor with exhausted := false }
  let s := s.updUnit d.unit (·.granted (s.strip.matching u) g d.pos)
  let s := endWait n
    { s with
      tokens := s.tokens ++ [token]
      log := { s.log with reserved := if stall then s.log.reserved + 1 else s.log.reserved }
      picker := { state := .stepping, lastLane := n } }
  match s.tableOfSlot i with
  | none => s
  | some k => sendOrder (tableLink k) .step (stepParams (s.slots.get i) r c) s

/-- Take one lane through a grant (R93 to R95). -/
def grantLane (n : Lane) (s : State) : GrantResult :=
  if s.log.policy = .stall ∧ s.log.roomToReserve = false then .noRoom
  else
    match s.strip.nextPosition n with
    | none => .noRoom
    | some d =>
      match s.unit d.unit with
      | none => .noRoom
      | some u =>
        match u.position d.pos with
        | none => .noRoom
        | some p =>
          let wanted := if s.strip.matching u then u.group else none
          let s := { s with searchAgain := s.searchAgain.set n false }
          match search p.dieType wanted s with
          | .found i r c x cls g => .created (createToken n d p.dieType u i r c x cls g s)
          | r => .failed (searchFailed n p.dieType r s)

/-- The arbiter (R92 to R94): with the picker IDLE it takes the chosen lane through a grant; when that grant fails
at its search and the other lane presents a request, the other lane in turn. -/
def arbitrate (s : State) : State :=
  if s.picker.state = .idle then
    match s.chosenLane with
    | none => s
    | some n =>
      match grantLane n s with
      | .noRoom => s
      | .created t => t
      | .failed t =>
        if t.requests (otherLane n) then
          match grantLane (otherLane n) t with
          | .noRoom => t
          | .created v => v
          | .failed v => v
        else t
  else s

/-- New work: the next strip and the next grant. -/
def newWork (s : State) : State := arbitrate (loadStripDue s)

/-- All that comes about by itself after an event that began in `s0` and has left `s` (notes/assumptions/2.md and
3.md): the owners, production control, new work. -/
def closeEvent (s0 s : State) : State := newWork (control s0 (owners s))

/-! ## A link leaves UP (R48, R56, R84, R102, R124, R125, R179) -/

/-- The table manager's disposition when its FAULTED flag is set (R48, R56). `ended` says that an order was
outstanding. -/
def tableLost (k : Table) (ended : Bool) (s : State) : State :=
  let r := s.tables.get k
  let s := s.updTable k fun r => { r with faulted := true }
  match r.state with
  | .loading | .unloading =>
    let s := match r.slot with
      | none => s
      | some i => s.updSlot i fun sl => { sl with state := .ready }
    raise (.mountDone k r.slot .tableFault r.readId)
      (s.updTable k fun r => { r with state := .empty, slot := none, unloadWanted := false, ending := none })
  | .occupied => if ended then endStep s else s
  | .empty => s

/-- A lane's nest that awaits the picker's die becomes BLOCKED with no token (R102). -/
def blockReceiving (n : Lane) (s : State) : State :=
  s.updLane n fun r => if r.nest = .receiving then { r with nest := .blocked } else r

/-- The picker sequencer's disposition of its token (R102). -/
def pickerLost (s : State) : State :=
  match s.picker.state with
  | .idle => s
  | .stepping =>
    match s.tokenAt .picker with
    | none => s
    | some t => releaseToken t s
  | .picking | .putting | .purging | .aborting =>
    setPicker .idle (match s.tokenAt .picker with
      | none => s
      | some t => blockReceiving t.lane (settleDie t .unknown none none none .empty (setSite t .taken s)))

/-- An open force dwell is abandoned: no verdict, the monitor IDLE (R137). -/
def abandonDwell (n : Lane) (s : State) : State :=
  s.updMonitor n fun m => { m with state := .idle }

/-- The collet becomes IDLE with the bond context, purge source and abort origin absent (R106). -/
def colletIdle (r : LaneRec) : LaneRec :=
  { r with collet := .idle, bond := none, purge := none, abort := none }

/-- A lane's token at a place is recorded UNKNOWN, with the bond context when one is present (R124). -/
def loseToken (n : Lane) (p : Place) (st : PosState) (s : State) : State :=
  match s.tokenAt p with
  | none => s
  | some t => settleDie t .unknown (some n) (s.lanes.get n).bond none st s

/-- A TAKE lost: the die may lie in the nest or on the collet (Table 6-6). -/
def loseTaking (n : Lane) (s : State) : State :=
  (loseToken n (.nest n) .empty s).updLane n fun r => { r with nest := .blocked, settleTimer := none }

/-- The collet's disposition when a bonder link leaves UP (Table 6-6). -/
def colletLost (n : Lane) (s : State) : State :=
  match (s.lanes.get n).collet with
  | .idle => s
  | .taking => loseTaking n s
  | .bonding => loseToken n (.collet n) .uncertain s
  | .dwell => loseToken n (.collet n) .uncertain (abandonDwell n s)
  | .purging =>
    match (s.lanes.get n).purge with
    | some .collet => loseToken n (.collet n) .empty s
    | some .nest | none => s
  | .aborting =>
    match (s.lanes.get n).abort with
    | some .taking => loseTaking n s
    | some .bonding => loseToken n (.collet n) .uncertain s
    | some .dwell => loseToken n (.collet n) .uncertain (abandonDwell n s)
    | none => s

/-- The lane's disposition when its bonder link leaves UP (R124, R125): the collet's token, the collet, the nest,
and while STOPPING the nest's token. -/
def laneLost (n : Lane) (s : State) : State :=
  let s := (colletLost n s).updLane n fun r =>
    { colletIdle r with
      nest := match r.nest with
        | .settling | .ready => .blocked
        | x => x
      settleTimer := none }
  nestLostDue n s

/-- The strip controller's disposition of an ended strip order (R84). -/
def stripOrderLost (s : State) : State :=
  match s.strip.state with
  | .loading => { s with strip := { s.strip with state := .none } }
  | .ejecting => { s with strip := { s.strip with state := .active, done := true } }
  | .none | .active => s

/-- The owner's disposition when a link leaves UP or enters FAULT; `ended` says that an order was outstanding. -/
def ownerLost (l : Link) (ended : Bool) (s : State) : State :=
  match l with
  | .ta => tableLost .a ended s
  | .tb => tableLost .b ended s
  | .pk => pickerLost s
  | .b1 => laneLost .one s
  | .b2 => laneLost .two s
  | .ix => if ended then stripOrderLost s else s

/-- A bonder link's lane raises LANE-OUT with reason FAULTED (R126). -/
def raiseLaneOut (l : Link) (s : State) : State :=
  match l with
  | .b1 => raise (.laneOut .one .faulted) s
  | .b2 => raise (.laneOut .two .faulted) s
  | .ta | .tb | .pk | .ix => s

/-- A link enters FAULT (R179), as one whole event: the order ends, the owner disposes, the owners and production
control act, STATION-FAULT is raised, and new work begins. -/
def linkFault (l : Link) (c : FaultCause) (s : State) : State :=
  let order := (s.links.get l).outstanding
  let t := (endOrder l s).updLink l fun r =>
    { r with state := .fault, cause := some c, callTimer := none, breakTimer := none }
  let t := control s (owners (raiseLaneOut l (ownerLost l order.isSome t)))
  newWork (raise (.stationFault l c (order.map (·.kind)) (t.links.get l).lastError) t)

/-- A link enters UP (R180): a table's FAULTED flag is cleared, which is a selection change on an OCCUPIED table
whose slot is MOUNTED (R43, R61). -/
def linkUp (l : Link) (s : State) : State :=
  let cleared (k : Table) (s : State) : State :=
    let r := s.tables.get k
    let t := s.updTable k fun r => { r with faulted := false }
    if r.faulted ∧ r.state = .occupied ∧ r.slot.any (fun i => decide ((s.slots.get i).state = .mounted)) then
      selectionChange t
    else t
  match l with
  | .ta => cleared .a s
  | .tb => cleared .b s
  | .pk | .b1 | .b2 | .ix => s

/-! ## Reports (R174 to R176) -/

/-- The link's receiver takes frames: not DISABLED and not in a break (R174, R181). -/
def State.receives (s : State) (l : Link) : Bool :=
  decide ((s.links.get l).state ≠ .disabled) && (s.links.get l).breakTimer.isNone

/-- A report is discarded as late (R175). -/
def lateReport (l : Link) (s : State) : State :=
  s.updLink l fun r => { r with lateCount := min 65535 (r.lateCount + 1) }

/-- A report that is not delivered, or a HELLO while UP: FAULT with cause STATION-ERROR (R173, R176). -/
def stationError (l : Link) (code : Option Byte) (s : State) : State :=
  linkFault l .stationError (s.updLink l fun r => { r with lastError := code })

/-- Take a report other than HELLO (R175, R176): late when its number is not that of the outstanding order;
delivered to `f` when `fits` says that it answers the order, fits the owner's state and has every parameter in
range; a STATION-ERROR against the order otherwise. -/
def takeReport (l : Link) (number : Byte) (fits : OrderKind → Bool) (f : State → State) (s : State) : State :=
  if s.receives l then
    match (s.links.get l).outstanding with
    | none => lateReport l s
    | some o =>
      if o.number = number ∧ (s.links.get l).state = .up then
        if fits o.kind then f s else stationError l none s
      else lateReport l s
  else s

/-- A report that completes its order: the order ends, the owner's effect follows, and what comes about by itself
closes the event (R169). -/
def completing (l : Link) (f : State → State) (s : State) : State := closeEvent s (f (endOrder l s))

/-! ## Commands (R188, R189) -/

/-- What a command does: refuse with a reason and the values the refusal carries; answer DONE having changed no more
than its own record; or answer DONE after effects that others act on. -/
inductive CmdResult where
  | refused (r : Status) (values : List Byte)
  | answers (s : State) (values : List Byte)
  | acts (s : State) (values : List Byte)

/-- Take a command: its effect, what comes about by itself, then its reply (R188, R189). -/
def command (kind : Nat) (tag : Byte) (c : State → CmdResult) (s : State) : State :=
  match c s with
  | .refused r values => reply kind tag (r.code :: values) s
  | .answers t values => reply kind tag (0 :: values) t
  | .acts t values => reply kind tag (0 :: values) (closeEvent s t)

/-- A step of the part: nothing happens while the supply is down (R196). -/
def live (f : State → State) (s : State) : Host.Outcome State Fault Refusal :=
  .next (if s.powered then f s else s)

end Sys2Proof.Machine
end

