-- ==== Sys2Proof/Machine/Tables.lean ====
section
/-! DEFINITION. The table manager (spec/03_wafer_tables_and_site_selection.md): mounting, dismounting, identity and
offset. -/

namespace Sys2Proof.Machine

/-- The table a station link leads to. -/
def tableOfLink : Link → Option Table
  | .ta => some .a
  | .tb => some .b
  | .pk | .b1 | .b2 | .ix => none

/-- MOUNT is allowed (R45). -/
def State.mayMount (s : State) (i : SlotId) (k : Table) : Bool :=
  decide (s.control.cell ≠ .stopping) && decide ((s.slots.get i).state = .ready) &&
  decide ((s.tables.get k).state = .empty) && decide ((s.links.get (tableLink k)).state = .up) &&
  [Quad.q0, .q1, .q2, .q3].all fun j =>
    !(decide (j ≠ i) && decide ((s.slots.get j).dieType = (s.slots.get i).dieType) &&
      (decide ((s.slots.get j).state = .mounted) || decide ((s.slots.get j).state = .mounting)))

/-- MOUNT (R45). -/
def mountCmd (p : List Byte) (s : State) : CmdResult :=
  match readTwo p with
  | none => .refused .badLength []
  | some (n, k) =>
    match Quad.ofNumber n, tableOf k with
    | some i, some k =>
      if s.mayMount i k then
        .answers
          (sendOrder (tableLink k) .loadWafer []
            ((s.updSlot i fun sl => { sl with state := .mounting }).updTable k fun r =>
              { r with state := .loading, slot := some i, ending := none, readId := .none }))
          []
      else .refused .wrongState []
    | _, _ => .refused .badValue []

def execMount (tag : Byte) (payload : List Byte) (s : State) : Host.Outcome State Fault Refusal :=
  live (command 32 tag (mountCmd payload)) s

/-- DISMOUNT (R49); UNLOAD-WAFER follows at the first moment of R50. -/
def dismountCmd (p : List Byte) (s : State) : CmdResult :=
  match readOne p with
  | none => .refused .badLength []
  | some n =>
    match tableOf n with
    | none => .refused .badValue []
    | some k =>
      match (s.tables.get k).slot with
      | none => .refused .wrongState []
      | some i =>
        if s.control.cell ≠ .stopping ∧ (s.tables.get k).state = .occupied ∧ (s.slots.get i).state = .mounted then
          .acts ((s.updSlot i fun sl => { sl with state := .unmounting }).updTable k fun r =>
            { r with unloadWanted := true }) []
        else .refused .wrongState []

def execDismount (tag : Byte) (payload : List Byte) (s : State) : Host.Outcome State Fault Refusal :=
  live (command 33 tag (dismountCmd payload)) s

/-- SET-WAFER-ID (R53). -/
def setWaferIdCmd (p : List Byte) (s : State) : CmdResult :=
  match readSetWaferId p with
  | none => .refused .badLength []
  | some a =>
    match Quad.ofNumber a.slot with
    | none => .refused .badValue []
    | some i =>
      if (s.slots.get i).state ≠ .loading ∧ (s.slots.get i).state ≠ .ready then .refused .wrongState []
      else
        match optText 12 a.idPresent a.id, flagOf a.lock with
        | some id, some lock => .answers (s.updSlot i fun sl => { sl with expectedId := id, idLock := lock }) []
        | _, _ => .refused .badValue []

def execSetWaferId (tag : Byte) (payload : List Byte) (s : State) : Host.Outcome State Fault Refusal :=
  live (command 34 tag (setWaferIdCmd payload)) s

/-- SET-OFFSET (R54). -/
def setOffsetCmd (p : List Byte) (s : State) : CmdResult :=
  match readSetOffset p with
  | none => .refused .badLength []
  | some a =>
    match Quad.ofNumber a.slot with
    | none => .refused .badValue []
    | some i =>
      if (s.slots.get i).state = .empty then .refused .wrongState []
      else if -15 ≤ a.row ∧ a.row ≤ 15 ∧ -15 ≤ a.col ∧ a.col ≤ 15 then
        .answers (s.updSlot i fun sl => { sl with rowOffset := a.row, colOffset := a.col }) []
      else .refused .badValue []

def execSetOffset (tag : Byte) (payload : List Byte) (s : State) : Host.Outcome State Fault Refusal :=
  live (command 35 tag (setOffsetCmd payload)) s

/-! ## Reports -/

/-- The outcome of a WAFER-IN (R46): `some id` mounts with that wafer-id, none is MISMATCH. -/
def Slot.identify (sl : Slot) (read : ReadId) : Option (Option Text) :=
  match sl.expectedId with
  | none =>
    match read with
    | .read id => some (some id)
    | .unread | .none => some none
  | some e =>
    if sl.idLock then some (some e)
    else
      match read with
      | .read id => if id = e then some (some id) else none
      | .unread | .none => none

/-- The effect of a WAFER-IN on its table (R46, R47). -/
def waferInEffect (k : Table) (read : ReadId) (s : State) : State :=
  match (s.tables.get k).slot with
  | none => s
  | some i =>
    let s := s.updTable k fun r => { r with readId := read }
    match (s.slots.get i).identify read with
    | some id =>
      selectionChange (raise (.mountDone k (some i) .mounted read)
        ((s.updSlot i fun sl => { sl with state := .mounted, waferId := id }).updTable k fun r =>
          { r with state := .occupied }))
    | none =>
      sendOrder (tableLink k) .unloadWafer []
        (s.updTable k fun r => { r with state := .unloading, ending := some .mismatch })

/-- The identity a WAFER-IN carries, when its bytes are in range: read with 12 printable characters, or unread. -/
def readIdOf (state : Byte) (id : Text) : Option ReadId :=
  match state.toNat with
  | 0 => if isText 12 id then some (.read id) else none
  | 1 => some .unread
  | _ => none

/-- WAFER-IN (R46). -/
def waferInEvent (l : Link) (number state : Byte) (id : Text) (s : State) : State :=
  takeReport l number (fun k => decide (k = .loadWafer) && (readIdOf state id).isSome)
    (completing l fun t =>
      match tableOfLink l, readIdOf state id with
      | some k, some r => waferInEffect k r t
      | _, _ => t) s

def execWaferIn (l : Link) (number state : Byte) (id : Text) (s : State) : Host.Outcome State Fault Refusal :=
  live (waferInEvent l number state id) s

/-- The outcome an ending gives MOUNT-DONE (Table 3-3). -/
def outcomeOf : Option Ending → MountOutcome
  | some .mismatch => .mismatch
  | some .aborted => .aborted
  | some .dismounted | none => .dismounted

/-- The effect of a WAFER-OUT on its table (R47, R50). -/
def waferOutEffect (k : Table) (s : State) : State :=
  let r := s.tables.get k
  let s := match r.slot with
    | none => s
    | some i => s.updSlot i fun sl => { sl with state := .ready }
  raise (.mountDone k r.slot (outcomeOf r.ending) r.readId)
    (s.updTable k fun r => { r with state := .empty, slot := none, ending := none })

/-- WAFER-OUT (R47, R50). -/
def waferOutEvent (l : Link) (number : Byte) (s : State) : State :=
  takeReport l number (fun k => decide (k = .unloadWafer))
    (completing l fun t =>
      match tableOfLink l with
      | some k => waferOutEffect k t
      | none => t) s

def execWaferOut (l : Link) (number : Byte) (s : State) : Host.Outcome State Fault Refusal :=
  live (waferOutEvent l number) s

/-- The step UNLOAD_WAFER (R50). -/
def execUnloadWafer (k : Table) (s : State) : Host.Outcome State Fault Refusal := live (unloadDue k) s

/-- The effect of an ABORTED on a table link, by what the ABORT replaced (R51): the table is LOADING under
LOAD-WAFER, UNLOADING under UNLOAD-WAFER and OCCUPIED under STEP. -/
def abortedTableEffect (k : Table) (s : State) : State :=
  match (s.tables.get k).state with
  | .loading =>
    sendOrder (tableLink k) .unloadWafer []
      (s.updTable k fun r => { r with state := .unloading, ending := some .aborted })
  | .unloading => sendOrder (tableLink k) .unloadWafer [] s
  | .occupied => endStep s
  | .empty => s

/-- ABORTED on a table link (R51). -/
def abortedTableEvent (k : Table) (number holds : Byte) (s : State) : State :=
  takeReport (tableLink k) number (fun o => decide (o = .abort) && (flagOf holds).isSome)
    (completing (tableLink k) (abortedTableEffect k)) s

def execAbortedTable (k : Table) (number holds : Byte) (s : State) : Host.Outcome State Fault Refusal :=
  live (abortedTableEvent k number holds) s

end Sys2Proof.Machine
end

