-- ==== Sys2Proof/Machine/Picker.lean ====
section
/-! DEFINITION. The picker sequencer (spec/05_the_picker_and_die_tokens.md): the grant, the pick cycle and its ends. -/

namespace Sys2Proof.Machine

/-- The places in the order READ-TOKENS lists them (R90). -/
def Place.all : List Place := [.picker, .nest .one, .collet .one, .nest .two, .collet .two]

/-- The attempts of a token's site, while it is RESERVED (R90). -/
def State.tokenAttempts (s : State) (t : Token) : Option Nat :=
  ((s.slots.get t.slot).site t.row t.col).bind fun x => if x.state = .reserved then some x.attempts else none

/-- A token's fields (Table 5-1) and its site's attempts, as READ-TOKENS sends them. -/
def State.tokenBytes (s : State) (t : Token) : List Byte :=
  [u8 t.slot.number, u8 t.row, u8 t.col, u8 t.bin, u8 t.cls, u8 t.group.number, u8 t.dieType.number, t.generation,
    u8 (laneNumber t.lane)] ++ optional 3 (t.dest.map fun d => u16 d.unit ++ [u8 d.pos]) ++
    [t.place.code, flag t.reserved] ++ optional 1 ((s.tokenAttempts t).map fun n => [u8 n])

/-- READ-TOKENS (R90). -/
def readTokensCmd (p : List Byte) (s : State) : CmdResult :=
  match readNothing p with
  | none => .refused .badLength []
  | some () =>
    .answers s ([s.picker.state.code, u8 (laneNumber s.picker.lastLane), u8 s.tokens.length] ++
      (Place.all.filterMap s.tokenAt).flatMap s.tokenBytes)

def execReadTokens (tag : Byte) (payload : List Byte) (s : State) : Host.Outcome State Fault Refusal :=
  live (command 48 tag (readTokensCmd payload)) s

/-- The step GRANT (R92 to R95). -/
def execGrant (s : State) : Host.Outcome State Fault Refusal := live arbitrate s

/-- The picker holds a token in a state (the fit of R101). -/
def State.pickerIn (s : State) (p : PickerState) : Bool :=
  decide (s.picker.state = p) && (s.tokenAt .picker).isSome

/-- The effect of a STEPPED (R96, R102): PICK is sent for the token; a picker with no token becomes IDLE. -/
def steppedEffect (k : Table) (s : State) : State :=
  if s.picker.state = .stepping then
    match s.tokenAt .picker with
    | none => setPicker .idle s
    | some _ => sendOrder .pk .pick [u8 (tableCode k)] (setPicker .picking s)
  else s

/-- STEPPED (R96). -/
def steppedEvent (l : Link) (number : Byte) (s : State) : State :=
  takeReport l number (fun k => decide (k = .step))
    (completing l fun t =>
      match tableOfLink l with
      | some k => steppedEffect k t
      | none => t) s

def execStepped (l : Link) (number : Byte) (s : State) : Host.Outcome State Fault Refusal :=
  live (steppedEvent l number) s

/-- The effect of a PICKED (R97). -/
def pickedEffect (s : State) : State :=
  match s.tokenAt .picker with
  | none => s
  | some t =>
    sendOrder .pk .put [u8 (laneNumber t.lane)]
      (setPicker .putting ((setSite t .taken s).updLane t.lane fun r => { r with nest := .receiving }))

/-- PICKED (R97). -/
def pickedEvent (l : Link) (number : Byte) (s : State) : State :=
  takeReport l number (fun k => decide (k = .pick) && s.pickerIn .picking) (completing l pickedEffect) s

def execPicked (l : Link) (number : Byte) (s : State) : Host.Outcome State Fault Refusal :=
  live (pickedEvent l number) s

/-- The pick retry limit of a die type's active recipe (R38). -/
def State.retryLimit (s : State) (t : DieType) : Nat := ((s.recipes.active.get t).map (·.retryLimit)).getD 0

/-- The effect of a PICK-FAIL (R19, R98): a retry while the attempts do not exceed the limit, else the site is
MISSED. -/
def pickFailEffect (s : State) : State :=
  match s.tokenAt .picker with
  | none => s
  | some t =>
    let attempts := ((s.tokenAttempts t).getD 0) + 1
    if attempts ≤ s.retryLimit t.dieType then
      sendOrder .pk .pick [u8 (((s.tableOfSlot t.slot).map tableCode).getD 0)]
        (s.updSlot t.slot fun sl => sl.updSite t.row t.col fun x => { x with attempts := attempts })
    else setPicker .idle (missToken t s)

/-- PICK-FAIL (R98). -/
def pickFailEvent (l : Link) (number : Byte) (s : State) : State :=
  takeReport l number (fun k => decide (k = .pick) && s.pickerIn .picking) (completing l pickFailEffect) s

def execPickFail (l : Link) (number : Byte) (s : State) : Host.Outcome State Fault Refusal :=
  live (pickFailEvent l number) s

/-- The nest after a PUT-DONE, by the bonder link and the settle interval (R107). -/
def LaneRec.nestPut (r : LaneRec) (up : Bool) : LaneRec :=
  if up then
    if r.settle = 0 then { r with nest := .ready, settleTimer := none }
    else { r with nest := .settling, settleTimer := some r.settle }
  else { r with nest := .blocked, settleTimer := none }

/-- The effect of a PUT-DONE (R99, R107). -/
def putDoneEffect (s : State) : State :=
  match s.tokenAt .picker with
  | none => s
  | some t =>
    (setPicker .idle (moveToken t (.nest t.lane) s)).updLane t.lane fun r =>
      r.nestPut (decide ((s.links.get (bonderLink t.lane)).state = .up))

/-- PUT-DONE (R99). -/
def putDoneEvent (l : Link) (number : Byte) (s : State) : State :=
  takeReport l number (fun k => decide (k = .put) && s.pickerIn .putting) (completing l putDoneEffect) s

def execPutDone (l : Link) (number : Byte) (s : State) : Host.Outcome State Fault Refusal :=
  live (putDoneEvent l number) s

/-- A RECEIVING nest is EMPTY again (R100, R103). -/
def emptyReceiving (n : Lane) (s : State) : State :=
  s.updLane n fun r => if r.nest = .receiving then { r with nest := .empty } else r

/-- The effect of a DROPPED (R100). -/
def droppedEffect (s : State) : State :=
  match s.tokenAt .picker with
  | none => s
  | some t => setPicker .idle (emptyReceiving t.lane (settleDie t .dropped none none none .empty s))

/-- DROPPED (R100). -/
def droppedEvent (l : Link) (number : Byte) (s : State) : State :=
  takeReport l number (fun k => decide (k = .put) && s.pickerIn .putting) (completing l droppedEffect) s

def execDropped (l : Link) (number : Byte) (s : State) : Host.Outcome State Fault Refusal :=
  live (droppedEvent l number) s

/-- The effect of an ABORTED on PK (Table 5-4): the site tells the state before the ABORT, RESERVED under PICKING and
TAKEN under PUTTING. -/
def abortedPkEffect (holds : Bool) (s : State) : State :=
  match s.tokenAt .picker with
  | none => s
  | some t =>
    let picking := decide (s.siteState t = some .reserved)
    if picking ∧ holds = false then setPicker .idle (releaseToken t s)
    else if picking then sendOrder .pk .purge [] (setPicker .purging (setSite t .taken s))
    else if holds then sendOrder .pk .purge [] (setPicker .purging (emptyReceiving t.lane s))
    else
      (setPicker .idle (moveToken t (.nest t.lane) s)).updLane t.lane fun r =>
        { r with nest := .blocked, settleTimer := none }

/-- ABORTED on PK (R103). -/
def abortedPkEvent (number holds : Byte) (s : State) : State :=
  takeReport .pk number
    (fun k => decide (k = .abort) && s.pickerIn .aborting && (flagOf holds).isSome)
    (completing .pk (abortedPkEffect (decide (flagOf holds = some true)))) s

def execAbortedPk (number holds : Byte) (s : State) : Host.Outcome State Fault Refusal :=
  live (abortedPkEvent number holds) s

/-- The effect of a PURGED on PK (R104). -/
def purgedPkEffect (s : State) : State :=
  match s.tokenAt .picker with
  | none => s
  | some t => setPicker .idle (settleDie t .purged none none none .empty s)

/-- PURGED on PK (R104). -/
def purgedPkEvent (number : Byte) (s : State) : State :=
  takeReport .pk number (fun k => decide (k = .purge) && s.pickerIn .purging) (completing .pk purgedPkEffect) s

def execPurgedOnPk (number : Byte) (s : State) : Host.Outcome State Fault Refusal :=
  live (purgedPkEvent number) s

end Sys2Proof.Machine
end

