-- ==== Sys2Proof/Machine/Lanes.lean ====
section
/-! DEFINITION. The bond lanes (spec/06_bond_lanes.md): settings, the nest, the bond cycle and its reports. -/

namespace Sys2Proof.Machine

/-- Do something for each lane of a mask, lane 1 first. -/
def LaneMask.each (m : LaneMask) (f : Lane → State → State) (s : State) : State :=
  let t := if m.one then f .one s else s
  if m.two then f .two t else t

/-- One byte for each lane of a mask, lane 1 first: the results of SET-LANE and SET-FORCE (R122, R138). That the lanes
of the mask alone are answered, with no count of them before, is the model's reading (notes/assumptions/30.md). -/
def LaneMask.bytes (m : LaneMask) (f : Lane → Byte) : List Byte :=
  (if m.one then [f .one] else []) ++ (if m.two then [f .two] else [])

/-- No lane is in the mask. -/
def LaneMask.isEmpty (m : LaneMask) : Bool := !m.one && !m.two

/-- SET-LANE (R121, R122). -/
def setLaneCmd (p : List Byte) (s : State) : CmdResult :=
  match readSetLane p with
  | none => .refused .badLength []
  | some a =>
    if a.mask.isEmpty then .refused .badValue []
    else
      match flagOf a.enable with
      | none => .refused .badValue []
      | some e =>
        if 1 ≤ a.threshold ∧ a.threshold ≤ 63 then
          let t := a.mask.each (fun n => State.updLane n fun r =>
            { r with settle := a.settle, threshold := a.threshold, enable := e }) s
          .acts t (a.mask.bytes fun n => flag (t.usable n))
        else .refused .badValue []

def execSetLane (tag : Byte) (payload : List Byte) (s : State) : Host.Outcome State Fault Refusal :=
  live (command 56 tag (setLaneCmd payload)) s

/-- A bond context's seven bytes. -/
def BondContext.bytes (c : BondContext) : List Byte :=
  u16 c.unit ++ [u8 c.row, u8 c.col, u8 c.pos, u8 c.quanta, u8 c.cycle.toNat]

/-- READ-LANE's results (R119). -/
def State.laneResults (s : State) (n : Lane) : List Byte :=
  let r := s.lanes.get n
  [flag r.enable, u8 r.settle, u8 r.threshold, flag r.degraded, flag (s.usable n), u8 r.offsetFailures,
    r.nest.code, flag (s.tokenAt (.nest n)).isSome] ++ optional 1 (r.settleTimer.map fun k => [u8 k]) ++
    [r.collet.code, flag (s.tokenAt (.collet n)).isSome] ++ optional 7 (r.bond.map BondContext.bytes)

/-- READ-LANE (R119, R121): the offset-failure count is read and cleared. -/
def readLaneCmd (p : List Byte) (s : State) : CmdResult :=
  match readOne p with
  | none => .refused .badLength []
  | some k =>
    match laneOf k with
    | none => .refused .badValue []
    | some n => .answers (s.updLane n fun r => { r with offsetFailures := 0 }) (s.laneResults n)

def execReadLane (tag : Byte) (payload : List Byte) (s : State) : Host.Outcome State Fault Refusal :=
  live (command 57 tag (readLaneCmd payload)) s

/-- RESTORE-LANE (R120, R121). -/
def restoreLaneCmd (p : List Byte) (s : State) : CmdResult :=
  match readOne p with
  | none => .refused .badLength []
  | some k =>
    match laneOf k with
    | none => .refused .badValue []
    | some n =>
      .acts (s.updLane n fun r => { r with degraded := false, offsetFailures := 0 })
        [flag (s.lanes.get n).degraded]

def execRestoreLane (tag : Byte) (payload : List Byte) (s : State) : Host.Outcome State Fault Refusal :=
  live (command 58 tag (restoreLaneCmd payload)) s

/-! ## Steps of the part -/

/-- SETTLE_EXPIRY (R108): only a SETTLING nest has a timer running. After STOP no settle expiry occurs (R129). -/
def settleExpiryEvent (n : Lane) (s : State) : State :=
  if (s.lanes.get n).nest = .settling ∧ (s.lanes.get n).settleTimer.isSome ∧ s.control.cell ≠ .stopping then
    closeEvent s (s.updLane n fun r => { r with nest := .ready, settleTimer := none })
  else s

def execSettleExpiry (n : Lane) (s : State) : Host.Outcome State Fault Refusal :=
  live (settleExpiryEvent n) s

/-- The step TAKE (R111). -/
def execTake (n : Lane) (s : State) : Host.Outcome State Fault Refusal := live (takeDue n) s

/-- The step NEST_PURGE (R109). -/
def execNestPurge (n : Lane) (s : State) : Host.Outcome State Fault Refusal := live (nestPurgeDue n) s

/-! ## Reports -/

/-- The lane a bonder link serves. -/
def laneOfLink : Link → Option Lane
  | .b1 => some .one
  | .b2 => some .two
  | .ta | .tb | .pk | .ix => none

/-- A report of the bonders (R110): on any other link it answers no order. -/
def bonderReport (l : Link) (number : Byte) (fits : Lane → OrderKind → State → Bool) (f : Lane → State → State)
    (s : State) : State :=
  match laneOfLink l with
  | some n => takeReport l number (fun k => fits n k s) (f n) s
  | none => takeReport l number (fun _ => false) (fun t => t) s

/-- PURGE is sent for the die on the collet (R112, R128). -/
def purgeCollet (n : Lane) (s : State) : State :=
  sendOrder (bonderLink n) .purge [PurgeSource.collet.code]
    (s.updLane n fun r => { r with collet := .purging, purge := some .collet, abort := none })

/-- BOND's ten parameter bytes (R113, Table 11-8). -/
def bondParams (u : StripUnit) (p : Position) (r : Recipe) (quanta : Nat) : List Byte :=
  [u8 u.row, u8 u.col] ++ i16 p.x ++ i16 p.y ++ [u8 quanta] ++ u16 r.setpoint ++ [u8 r.dwell]

/-- BOND is sent for a token's destination (R113); the lane's cycle index for the die type advances (R40). -/
def sendBond (n : Lane) (t : Token) (d : Dest) (u : StripUnit) (p : Position) (r : Recipe) (s : State) : State :=
  let index := (s.recipes.cycle.get n).get t.dieType
  let quanta := r.quanta index
  let cycle := s.recipes.cycle.set n ((s.recipes.cycle.get n).set t.dieType (index + 1))
  sendOrder (bonderLink n) .bond (bondParams u p r quanta)
    ({ s with recipes := { s.recipes with cycle := cycle } }.updLane n fun l =>
      { l with collet := .bonding, bond := some ⟨u.index, u.row, u.col, d.pos, quanta, index⟩ })

/-- What a BOND is built from: the destination, its unit and position, and the active recipe. -/
structure BondSource where
  dest : Dest
  unit : StripUnit
  position : Position
  recipe : Recipe
  deriving DecidableEq, Repr

/-- What the BOND of a token is built from; none when the destination is absent (R112). -/
def State.bondSource (s : State) (t : Token) : Option BondSource :=
  match t.dest, s.recipes.active.get t.dieType with
  | some d, some r =>
    match s.unit d.unit with
    | none => none
    | some u => (u.position d.pos).map fun p => ⟨d, u, p, r⟩
  | _, _ => none

/-- The effect of a TAKEN (R112, R113). -/
def takenEffect (n : Lane) (s : State) : State :=
  match s.tokenAt (.nest n) with
  | none => s
  | some t =>
    let s := (moveToken t (.collet n) s).updLane n fun r => { r with nest := .empty, settleTimer := none }
    match s.bondSource t with
    | some b => sendBond n t b.dest b.unit b.position b.recipe s
    | none => purgeCollet n s

/-- TAKEN (R112). -/
def takenEvent (l : Link) (number : Byte) (s : State) : State :=
  bonderReport l number
    (fun n k s => decide (k = .take) && decide ((s.lanes.get n).collet = .taking) && (s.tokenAt (.nest n)).isSome)
    (fun n => completing l (takenEffect n)) s

def execTaken (l : Link) (number : Byte) (s : State) : Host.Outcome State Fault Refusal :=
  live (takenEvent l number) s

/-- The force monitor opens a dwell (R134). The tare is the latest sample as it stands, also after a SET-FORCE taken in
the dwell before changed the gain and no idle conversion has completed since (DEDUCED, notes/assumptions/29.md). -/
def Monitor.openDwell (m : Monitor) : Monitor :=
  { m with
    state := if m.enable then .dwell else .unwatched
    tare := if m.enable then m.latest.getD 0 else 0
    dwellMin := none, dwellMax := none, count := 0 }

/-- The effect of a TOUCHED (R114): the BOND stays outstanding and its watchdog restarts for the second leg. -/
def touchedEffect (n : Lane) (s : State) : State :=
  let limit := Config.ticksPerMs * s.limits.get .bond
  ((s.updLane n fun r => { r with collet := .dwell }).updMonitor n Monitor.openDwell).updLink (bonderLink n)
    fun r => { r with watchdog := some limit }

/-- TOUCHED (R114). -/
def touchedEvent (l : Link) (number : Byte) (s : State) : State :=
  bonderReport l number
    (fun n k s => decide (k = .bond) && decide ((s.lanes.get n).collet = .bonding))
    (fun n t => closeEvent t (touchedEffect n t)) s

def execTouched (l : Link) (number : Byte) (s : State) : Host.Outcome State Fault Refusal :=
  live (touchedEvent l number) s

/-- An offset fault is counted, and the lane becomes DEGRADED when the count reaches the threshold (R118). -/
def countOffsetFault (n : Lane) (s : State) : State :=
  let r := s.lanes.get n
  let count := min 255 (r.offsetFailures + 1)
  if r.threshold ≤ count ∧ r.degraded = false then
    raise (.laneOut n .degraded) (s.updLane n fun r => { r with offsetFailures := count, degraded := true })
  else s.updLane n fun r => { r with offsetFailures := count }

/-- What a bond is judged with: its token, the recipe of the token's die type and the bond context. -/
structure BondEnd where
  token : Token
  recipe : Recipe
  context : BondContext
  deriving DecidableEq, Repr

/-- What the bond of a lane in DWELL is judged with. -/
def State.bondEnd (s : State) (n : Lane) : Option BondEnd :=
  match s.tokenAt (.collet n), (s.lanes.get n).bond with
  | some t, some c => (s.recipes.active.get t.dieType).map fun r => ⟨t, r, c⟩
  | _, _ => none

/-- The bond fields of a BONDED record (R116, R136): an absent minimum or maximum is written as 0. -/
def bondFields (e : BondEnd) (m : Monitor) (dx dy rotation : Int) (seen : Bool) : BondFields :=
  let fault := offsetFault e.recipe dx dy rotation seen
  { quanta := e.context.quanta, cycle := e.context.cycle, dx := dx, dy := dy, rotation := rotation, seen := seen
    offsetFault := fault, tare := m.tare, forceMin := m.dwellMin.getD 0, forceMax := m.dwellMax.getD 0
    forceCount := m.count, force := m.verdict e.recipe, result := bondResult fault (m.verdict e.recipe) }

/-- The state a bond's result gives its position (Table 6-5). -/
def BondResult.position : BondResult → PosState
  | .placed => .placed
  | .suspect => .suspect

/-- The effect of a BONDED (R115, R116, R118, R136). -/
def bondedEffect (n : Lane) (dx dy rotation : Int) (seen : Bool) (s : State) : State :=
  match s.bondEnd n with
  | none => s
  | some e =>
    let b := bondFields e (s.monitors.get n) dx dy rotation seen
    let s := s.updMonitor n fun m => { m with state := .idle }
    let s := createRecord e.token .bonded (some n) (some e.context) (some b)
      (settlePosition e.token b.result.position s)
    let s := if b.offsetFault then countOffsetFault n s else s
    (removeToken e.token s).updLane n colletIdle

/-- The vision of a BONDED: SEEN or NOT-SEEN, in that order (Table 6-3, R197). -/
def visionOf (b : Byte) : Option Bool :=
  match b.toNat with
  | 0 => some true
  | 1 => some false
  | _ => none

/-- BONDED (R116). -/
def bondedEvent (l : Link) (number : Byte) (dx dy rotation : BitVec 16) (vision : Byte) (s : State) : State :=
  bonderReport l number
    (fun n k s => decide (k = .bond) && decide ((s.lanes.get n).collet = .dwell) && (visionOf vision).isSome &&
      (s.bondEnd n).isSome)
    (fun n => completing l (bondedEffect n dx.toInt dy.toInt rotation.toInt (decide (visionOf vision = some true))))
    s

def execBonded (l : Link) (number : Byte) (dx dy rotation : BitVec 16) (vision : Byte) (s : State) :
    Host.Outcome State Fault Refusal :=
  live (bondedEvent l number dx dy rotation vision) s

/-- A purged token, if any, is recorded with the lane (R109, R117). -/
def purgeToken (n : Lane) (p : Place) (s : State) : State :=
  match s.tokenAt p with
  | none => s
  | some t => settleDie t .purged (some n) none none .empty s

/-- The effect of a PURGED on a bonder link, by the purge source (R109, R117). -/
def purgedEffect (n : Lane) (s : State) : State :=
  match (s.lanes.get n).purge with
  | some .nest =>
    (purgeToken n (.nest n) s).updLane n fun r => { colletIdle r with nest := .empty, settleTimer := none }
  | some .collet => (purgeToken n (.collet n) s).updLane n colletIdle
  | none => s.updLane n colletIdle

/-- PURGED (R109, R117); on PK it is the picker's (R104). -/
def purgedEvent (l : Link) (number : Byte) (s : State) : State :=
  match l with
  | .pk => purgedPkEvent number s
  | l =>
    bonderReport l number
      (fun n k s => decide (k = .purge) && decide ((s.lanes.get n).collet = .purging))
      (fun n => completing l (purgedEffect n)) s

def execPurged (l : Link) (number : Byte) (s : State) : Host.Outcome State Fault Refusal :=
  live (purgedEvent l number) s

/-- An ABORTED bond whose die left the collet unreported (Table 6-7, fourth row). -/
def loseBond (n : Lane) (s : State) : State :=
  (loseToken n (.collet n) .uncertain s).updLane n colletIdle

/-- The effect of an ABORTED on a bonder link (Table 6-7). -/
def abortedBonderEffect (n : Lane) (holds : Bool) (s : State) : State :=
  match (s.lanes.get n).abort with
  | some .taking =>
    if holds then
      let s := match s.tokenAt (.nest n) with
        | none => s
        | some t => moveToken t (.collet n) s
      purgeCollet n (s.updLane n fun r => { r with nest := .empty, settleTimer := none })
    else s.updLane n colletIdle
  | some .bonding => if holds then purgeCollet n s else loseBond n s
  | some .dwell => if holds then purgeCollet n (abandonDwell n s) else loseBond n (abandonDwell n s)
  | none => s.updLane n colletIdle

/-- ABORTED on a bonder link (R128). -/
def abortedBonderEvent (n : Lane) (number holds : Byte) (s : State) : State :=
  takeReport (bonderLink n) number
    (fun k => decide (k = .abort) && decide ((s.lanes.get n).collet = .aborting) && (flagOf holds).isSome)
    (completing (bonderLink n) (abortedBonderEffect n (decide (flagOf holds = some true)))) s

def execAbortedBonder (n : Lane) (number holds : Byte) (s : State) : Host.Outcome State Fault Refusal :=
  live (abortedBonderEvent n number holds) s

end Sys2Proof.Machine
end

