-- ==== Sys2Proof/Machine/Force.lean ====
section
/-! DEFINITION. The force monitors (spec/07_force_monitor.md): settings, reading, conversions. -/

namespace Sys2Proof.Machine

/-- A dwell that a SET-FORCE spoils is open (R138). -/
def Monitor.spoils (m : Monitor) : Bool :=
  match m.state with
  | .dwell | .unwatched => true
  | .idle | .spoiled => false

/-- A disabled monitor holds no latest sample, and its fresh flag is clear (R132). -/
def Monitor.silent (m : Monitor) : Monitor :=
  if m.enable then m else { m with latest := none, fresh := false }

/-- A monitor after a SET-FORCE, by its state (R138). A SET-FORCE that disables it in an open dwell disables it at that
moment (R132; DEDUCED, notes/assumptions/28.md). -/
def Monitor.setForce (enable : Bool) (gain : Gain) (m : Monitor) : Monitor :=
  let t := { m with enable := enable, gain := gain }
  match m.state with
  | .dwell | .unwatched => { t.silent with state := .spoiled }
  | .spoiled => t.silent
  | .idle => if m.enable = enable ∧ m.gain = gain then m else { t with latest := none, fresh := false }

/-- SET-FORCE (R138). -/
def setForceCmd (p : List Byte) (s : State) : CmdResult :=
  match readSetForce p with
  | none => .refused .badLength []
  | some a =>
    if a.mask.isEmpty then .refused .badValue []
    else
      match flagOf a.enable, gainOf a.gain with
      | some e, some g =>
        .answers (a.mask.each (fun n => State.updMonitor n (Monitor.setForce e g)) s)
          (a.mask.bytes fun n => flag (s.monitors.get n).spoils)
      | _, _ => .refused .badValue []

def execSetForce (tag : Byte) (payload : List Byte) (s : State) : Host.Outcome State Fault Refusal :=
  live (command 64 tag (setForceCmd payload)) s

/-- READ-FORCE's results (R133). -/
def Monitor.results (m : Monitor) : List Byte :=
  [flag m.enable, m.gain.code, m.state.code] ++ optional 2 (m.latest.map u16) ++ [flag m.fresh] ++ u16 m.tare ++
    optional 2 (m.dwellMin.map u16) ++ optional 2 (m.dwellMax.map u16) ++ u16 m.count

/-- READ-FORCE (R133): the fresh flag is read and cleared. -/
def readForceCmd (p : List Byte) (s : State) : CmdResult :=
  match readOne p with
  | none => .refused .badLength []
  | some k =>
    match laneOf k with
    | none => .refused .badValue []
    | some n => .answers (s.updMonitor n fun m => { m with fresh := false }) (s.monitors.get n).results

def execReadForce (tag : Byte) (payload : List Byte) (s : State) : Host.Outcome State Fault Refusal :=
  live (command 65 tag (readForceCmd payload)) s

/-- The converter's count: a signal beyond the range reads 1023 (7.1). -/
def sample (counts : Nat) : Nat := min 1023 counts

/-- An idle conversion completes (R132). -/
def Monitor.idleSample (x : Nat) (m : Monitor) : Monitor :=
  if m.enable = true ∧ m.state = .idle then { m with latest := some x, fresh := true } else m

/-- IDLE_CONVERSION (R132): the converter makes idle conversions only while the monitor is enabled and IDLE. -/
def execIdleConversion (n : Lane) (counts : Nat) (s : State) : Host.Outcome State Fault Refusal :=
  live (State.updMonitor n (Monitor.idleSample (sample counts))) s

/-- A dwell conversion completes (R135): the reading is the sample less the tare, not below 0. -/
def Monitor.dwellSample (x : Nat) (m : Monitor) : Monitor :=
  let reading := x - m.tare
  if m.enable = true ∧ m.state = .dwell then
    { m with
      count := min 65535 (m.count + 1)
      dwellMin := some ((m.dwellMin.map fun v => min v reading).getD reading)
      dwellMax := some ((m.dwellMax.map fun v => max v reading).getD reading) }
  else m

/-- DWELL_CONVERSION (R135): the converter makes dwell conversions only while the monitor is DWELL. -/
def execDwellConversion (n : Lane) (counts : Nat) (s : State) : Host.Outcome State Fault Refusal :=
  live (State.updMonitor n (Monitor.dwellSample (sample counts))) s

end Sys2Proof.Machine
end

