-- ==== Sys2Proof/Machine/Recipes.lean ====
section
/-! DEFINITION. The commands of the class tables and the recipe store (spec/02_bin_classes_and_die_recipes.md, R25 to
R37). -/

namespace Sys2Proof.Machine

/-- The cell is STOPPED or HELD: the state in which the active bank, the recipes and the strip types may be written
(R26, R36, R65). -/
def CellState.atRest : CellState → Bool
  | .stopped | .held => true
  | .running | .holding | .stopping => false

/-- Write entries into a table from a first place on. -/
def overwriteFrom {α : Type} (first : Nat) (new old : List α) : List α :=
  old.take first ++ new ++ old.drop (first + new.length)

/-- How many of the entries written from a first place on differ from those held. -/
def changedFrom {α : Type} [DecidableEq α] (first : Nat) (new old : List α) : Nat :=
  ((new.zip (old.drop first)).filter fun p => decide (p.1 ≠ p.2)).length

/-- SET-BINS (R26): entry 63 is written by no command. -/
def setBinsCmd (p : List Byte) (s : State) : CmdResult :=
  match readSetBins p with
  | none => .refused .badLength []
  | some a =>
    match bankOf a.bank with
    | none => .refused .badValue []
    | some b =>
      if b = s.classes.active ∧ s.control.cell.atRest = false then .refused .wrongState []
      else
        match classEntries a.entries with
        | none => .refused .badValue []
        | some e =>
          if 63 < a.first ∨ 64 < a.first + e.length then .refused .badValue []
          else if 63 < a.first + e.length then .refused .badValue []
          else
            let old := s.classes.bank b
            let t := { s with classes := s.classes.setBank b (overwriteFrom a.first e old) }
            let n := [u8 (changedFrom a.first e old)]
            if b = s.classes.active then .acts (selectionChange (clearExhausted (fun _ => true) t)) n
            else .answers t n

def execSetBins (tag : Byte) (payload : List Byte) (s : State) : Host.Outcome State Fault Refusal :=
  live (command 16 tag (setBinsCmd payload)) s

/-- USE-BANK (R27). -/
def useBankCmd (p : List Byte) (s : State) : CmdResult :=
  match readOne p with
  | none => .refused .badLength []
  | some n =>
    match bankOf n with
    | none => .refused .badValue []
    | some b =>
      .acts (selectionChange (clearExhausted (fun _ => true) { s with classes := { s.classes with active := b } }))
        [u8 (bankCode b)]

def execUseBank (tag : Byte) (payload : List Byte) (s : State) : Host.Outcome State Fault Refusal :=
  live (command 17 tag (useBankCmd payload)) s

/-- SET-GROUPS (R28). -/
def setGroupsCmd (p : List Byte) (s : State) : CmdResult :=
  match readSetGroups p with
  | none => .refused .badLength []
  | some a =>
    match groupEntries a.groups with
    | none => .refused .badValue []
    | some g =>
      if 15 < a.first ∨ 16 < a.first + g.length then .refused .badValue []
      else
        .acts
          (selectionChange (clearExhausted (fun _ => true)
            { s with classes := { s.classes with groups := overwriteFrom a.first g s.classes.groups } }))
          [u8 (changedFrom a.first g s.classes.groups)]

def execSetGroups (tag : Byte) (payload : List Byte) (s : State) : Host.Outcome State Fault Refusal :=
  live (command 18 tag (setGroupsCmd payload)) s

/-- READ-CLASSES (R29). -/
def readClassesCmd (p : List Byte) (s : State) : CmdResult :=
  match readOne p with
  | none => .refused .badLength []
  | some n =>
    match bankOf n with
    | none => .refused .badValue []
    | some b =>
      .answers s ((s.classes.bank b).flatMap (fun e => optional 1 (e.map fun k => [u8 k])) ++
        [u8 (bankCode s.classes.active)] ++ s.classes.groups.map fun g => u8 g.number)

def execReadClasses (tag : Byte) (payload : List Byte) (s : State) : Host.Outcome State Fault Refusal :=
  live (command 19 tag (readClassesCmd payload)) s

/-- STAGE-RECIPE (R33): a full recipe is staged, no recipe withdraws the staged one. -/
def stageRecipeCmd (p : List Byte) (s : State) : CmdResult :=
  match readStageRecipe p with
  | none => .refused .badLength []
  | some a =>
    match Quad.ofNumber a.dieType with
    | none => .refused .badValue []
    | some t =>
      let done (r : Option Recipe) : CmdResult :=
        .answers { s with recipes := { s.recipes with staged := s.recipes.staged.set t r } }
          [u8 (s.recipes.generation.get t).toNat, flag (s.recipes.staged.get t).isSome]
      match flagOf a.recipePresent with
      | none => .refused .badValue []
      | some false => done none
      | some true =>
        match a.fields.checked with
        | none => .refused .badValue []
        | some r => if r.windowHigh < r.windowLow then .refused .badValue [] else done (some r)

def execStageRecipe (tag : Byte) (payload : List Byte) (s : State) : Host.Outcome State Fault Refusal :=
  live (command 20 tag (stageRecipeCmd payload)) s

/-- PROMOTE's results: for each die type, whether it was promoted and its generation now (R36). -/
def promoteResults (before after : RecipeStore) : List Byte :=
  [Quad.q0, .q1, .q2, .q3].flatMap fun t =>
    [flag (before.staged.get t).isSome, u8 (after.generation.get t).toNat]

/-- PROMOTE (R36). -/
def promoteCmd (p : List Byte) (s : State) : CmdResult :=
  match readNothing p with
  | none => .refused .badLength []
  | some () =>
    if s.control.cell.atRest = false ∨ s.strip.state ≠ .none then .refused .wrongState []
    else .acts (promote s) (promoteResults s.recipes (promote s).recipes)

def execPromote (tag : Byte) (payload : List Byte) (s : State) : Host.Outcome State Fault Refusal :=
  live (command 21 tag (promoteCmd payload)) s

/-- READ-RECIPE (R37). -/
def readRecipeCmd (p : List Byte) (s : State) : CmdResult :=
  match readOne p with
  | none => .refused .badLength []
  | some n =>
    match Quad.ofNumber n with
    | none => .refused .badValue []
    | some t =>
      .answers s (optional 18 ((s.recipes.active.get t).map Recipe.bytes) ++
        [u8 (s.recipes.generation.get t).toNat] ++ optional 18 ((s.recipes.staged.get t).map Recipe.bytes) ++
        [u8 (s.recipes.cycle.one.get t).toNat, u8 (s.recipes.cycle.two.get t).toNat])

def execReadRecipe (tag : Byte) (payload : List Byte) (s : State) : Host.Outcome State Fault Refusal :=
  live (command 22 tag (readRecipeCmd payload)) s

end Sys2Proof.Machine
end

