-- ==== Sys2Proof/Machine/Links.lean ====
section
/-! DEFINITION. The station links (spec/10_station_links.md): commands on a link, hunting, bad frames, STATION-ERROR and
the watchdog. -/

namespace Sys2Proof.Machine

/-! ## Commands (R170) -/

/-- ENABLE-LINK (R171, R172): the link enters HUNTING and CALL is sent at that moment. -/
def enableLinkCmd (p : List Byte) (s : State) : CmdResult :=
  match readTwo p with
  | none => .refused .badLength []
  | some (k, n) =>
    match linkOf k with
    | none => .refused .badValue []
    | some l =>
      if (s.links.get l).state ≠ .disabled then .refused .wrongState []
      else if 1 ≤ n ∧ n ≤ 15 then
        .answers (sendCall l (s.updLink l fun r => { r with state := .hunting, crcThreshold := n }))
          [u8 (s.links.get l).crcThreshold]
      else .refused .badValue []

def execEnableLink (tag : Byte) (payload : List Byte) (s : State) : Host.Outcome State Fault Refusal :=
  live (command 96 tag (enableLinkCmd payload)) s

/-- A link after RESET-LINK, its break begun (R181). -/
def LinkRec.hunt (r : LinkRec) : LinkRec :=
  { r with state := .hunting, cause := none, crcCount := 0, lateCount := 0, callTimer := none
           breakTimer := some Config.breakLength }

/-- RESET-LINK (R181). -/
def resetLinkCmd (p : List Byte) (s : State) : CmdResult :=
  match readOne p with
  | none => .refused .badLength []
  | some k =>
    match linkOf k with
    | none => .refused .badValue []
    | some l =>
      if (s.links.get l).state = .fault ∨ (s.links.get l).state = .hunting then
        let t := s.updLink l LinkRec.hunt
        .answers { t with wire := t.wire ++ [.brk l] } []
      else .refused .wrongState []

def execResetLink (tag : Byte) (payload : List Byte) (s : State) : Host.Outcome State Fault Refusal :=
  live (command 97 tag (resetLinkCmd payload)) s

/-- A link after DISABLE-LINK (R182). -/
def LinkRec.disable (r : LinkRec) : LinkRec :=
  { r with state := .disabled, cause := none, outstanding := none, watchdog := none, crcCount := 0, lateCount := 0
           test := 0, callTimer := none, breakTimer := none }

/-- The effect of DISABLE-LINK (R182): when the link was UP its owner disposes as for a fault. -/
def disableLink (l : Link) (s : State) : State :=
  let r := s.links.get l
  let t := s.updLink l LinkRec.disable
  if r.state = .up then ownerLost l r.outstanding.isSome t else t

/-- DISABLE-LINK (R182). -/
def disableLinkCmd (p : List Byte) (s : State) : CmdResult :=
  match readOne p with
  | none => .refused .badLength []
  | some k =>
    match linkOf k with
    | none => .refused .badValue []
    | some l => if s.control.cell.atRest then .acts (disableLink l s) [] else .refused .wrongState []

def execDisableLink (tag : Byte) (payload : List Byte) (s : State) : Host.Outcome State Fault Refusal :=
  live (command 98 tag (disableLinkCmd payload)) s

/-- LOCK-STATION-ID (R183). -/
def lockStationIdCmd (p : List Byte) (s : State) : CmdResult :=
  match readLock p with
  | none => .refused .badLength []
  | some a =>
    match linkOf a.link with
    | none => .refused .badValue []
    | some l =>
      match optText 8 a.idPresent a.id with
      | none => .refused .badValue []
      | some id =>
        .answers (s.updLink l fun r => { r with locked := id }) (optional 8 (s.links.get l).locked)

def execLockStationId (tag : Byte) (payload : List Byte) (s : State) : Host.Outcome State Fault Refusal :=
  live (command 99 tag (lockStationIdCmd payload)) s

/-- TEST-LINK (R184). -/
def testLinkCmd (p : List Byte) (s : State) : CmdResult :=
  match readTwo p with
  | none => .refused .badLength []
  | some (k, n) =>
    match linkOf k with
    | none => .refused .badValue []
    | some l =>
      if 1 ≤ n ∧ n ≤ 8 then
        .answers (s.updLink l fun r => { r with test := n }) [u8 (s.links.get l).test]
      else .refused .badValue []

def execTestLink (tag : Byte) (payload : List Byte) (s : State) : Host.Outcome State Fault Refusal :=
  live (command 100 tag (testLinkCmd payload)) s

/-- SET-LIMITS (R178). -/
def setLimitsCmd (p : List Byte) (s : State) : CmdResult :=
  match readSetLimits p with
  | none => .refused .badLength []
  | some a =>
    match OrderKind.ofCode a.kind with
    | none => .refused .badValue []
    | some k =>
      if s.control.cell ≠ .stopped then .refused .wrongState []
      else if a.limit = 0 then .refused .badValue []
      else .answers { s with limits := s.limits.set k a.limit } (u16 (s.limits.get k))

def execSetLimits (tag : Byte) (payload : List Byte) (s : State) : Host.Outcome State Fault Refusal :=
  live (command 101 tag (setLimitsCmd payload)) s

/-- READ-STATION's results (R185). -/
def stationResults (r : LinkRec) (limits : Limits) : List Byte :=
  [r.state.code] ++ optional 1 (r.cause.map fun c => [c.code]) ++ r.identity ++ optional 8 r.locked ++
    [r.nextNumber] ++ optional 2 (r.outstanding.map fun o => [o.kind.code, o.number]) ++
    optional 2 (r.watchdog.map fun n => u16 (inUnits Config.ticksPerMs n)) ++ [u8 r.crcCount] ++ u16 r.lateCount ++
    [u8 r.crcThreshold, u8 r.test] ++ optional 1 (r.lastError.map fun e => [e]) ++
    OrderKind.all.flatMap fun k => u16 (limits.get k)

/-- READ-STATION (R185): the CRC count and the late count are read and cleared. -/
def readStationCmd (p : List Byte) (s : State) : CmdResult :=
  match readOne p with
  | none => .refused .badLength []
  | some k =>
    match linkOf k with
    | none => .refused .badValue []
    | some l =>
      .answers (s.updLink l fun r => { r with crcCount := 0, lateCount := 0 })
        (stationResults (s.links.get l) s.limits)

def execReadStation (tag : Byte) (payload : List Byte) (s : State) : Host.Outcome State Fault Refusal :=
  live (command 102 tag (readStationCmd payload)) s

/-! ## Hunting (R172, R173, R181) -/

/-- BREAK_END (R181): the break ends and the first CALL is sent. -/
def breakEndEvent (l : Link) (s : State) : State :=
  if (s.links.get l).state = .hunting ∧ (s.links.get l).breakTimer.isSome then
    sendCall l (s.updLink l fun r => { r with breakTimer := none })
  else s

def execBreakEnd (l : Link) (s : State) : Host.Outcome State Fault Refusal := live (breakEndEvent l) s

/-- CALL (R172): a hunting link that is not in a break calls again. -/
def callEvent (l : Link) (s : State) : State :=
  if (s.links.get l).state = .hunting ∧ (s.links.get l).breakTimer = none then sendCall l s else s

def execCall (l : Link) (s : State) : Host.Outcome State Fault Refusal := live (callEvent l) s

/-- The station kind a link expects, as its code: TABLE, PICKER, BONDER, INDEXER (R173). -/
def stationKind : Link → Byte
  | .ta | .tb => 0
  | .pk => 1
  | .b1 | .b2 => 2
  | .ix => 3

/-- A HELLO's identity passes the second check (R173). -/
def LinkRec.accepts (r : LinkRec) (identity : Text) : Bool :=
  isText 8 identity && r.locked.all fun k => decide (k = identity)

/-- A link whose HELLO is accepted (R173). -/
def LinkRec.greet (identity : Text) (r : LinkRec) : LinkRec :=
  { r with state := .up, identity := identity, callTimer := none }

/-- HELLO (R173, R180); its number is not looked at. -/
def helloEvent (l : Link) (kind : Byte) (identity : Text) (s : State) : State :=
  if s.receives l then
    match (s.links.get l).state with
    | .hunting =>
      if kind ≠ stationKind l then linkFault l .wrongKind s
      else if (s.links.get l).accepts identity then
        closeEvent s (linkUp l (s.updLink l (LinkRec.greet identity)))
      else linkFault l .identity s
    | .up => stationError l none s
    | .fault => lateReport l s
    | .disabled => s
  else s

def execHello (l : Link) (_number kind : Byte) (identity : Text) (s : State) : Host.Outcome State Fault Refusal :=
  live (helloEvent l kind identity) s

/-! ## Bad frames, errors and the watchdog (R174, R176, R177) -/

/-- A frame is discarded and counted; a count that becomes the threshold faults a HUNTING or UP link (R174). -/
def badFrame (l : Link) (s : State) : State :=
  let n := min 255 ((s.links.get l).crcCount + 1)
  let t := s.updLink l fun r => { r with crcCount := n }
  if n = (s.links.get l).crcThreshold ∧ ((s.links.get l).state = .hunting ∨ (s.links.get l).state = .up) then
    linkFault l .crcLimit t
  else t

/-- A station frame kind names a report (Table 11-8). -/
def namesReport (kind : Byte) : Bool := decide (64 ≤ kind.toNat) && decide (kind.toNat ≤ 79)

/-- A station frame is bad: its check is wrong or its kind names no report (R174). -/
def frameBad (number kind : Byte) (params : List Byte) (check : Byte) : Bool :=
  decide (crc8 (number :: kind :: params) ≠ check) || !namesReport kind

/-- STATION_FRAME_DISCARD (R174). -/
def frameDiscardEvent (l : Link) (number kind : Byte) (params : List Byte) (check : Byte) (s : State) : State :=
  if s.receives l ∧ frameBad number kind params check then badFrame l s else s

def execStationFrameDiscard (l : Link) (number kind : Byte) (params : List Byte) (check : Byte) (s : State) :
    Host.Outcome State Fault Refusal :=
  live (frameDiscardEvent l number kind params check) s

/-- STATION_FRAME_TIMEOUT (R174). -/
def frameTimeoutEvent (l : Link) (s : State) : State := if s.receives l then badFrame l s else s

def execStationFrameTimeout (l : Link) (s : State) : Host.Outcome State Fault Refusal :=
  live (frameTimeoutEvent l) s

/-- STATION_ERROR (R176). -/
def stationErrorEvent (l : Link) (number code : Byte) (s : State) : State :=
  takeReport l number (fun _ => true) (stationError l (some code)) s

def execStationError (l : Link) (number code : Byte) (s : State) : Host.Outcome State Fault Refusal :=
  live (stationErrorEvent l number code) s

/-- WATCHDOG_EXPIRY (R177). -/
def watchdogExpiryEvent (l : Link) (s : State) : State :=
  if (s.links.get l).watchdog.isSome then linkFault l .timeout s else s

def execWatchdogExpiry (l : Link) (s : State) : Host.Outcome State Fault Refusal :=
  live (watchdogExpiryEvent l) s

end Sys2Proof.Machine
end

