-- ==== Sys2Proof/Machine/LogCmds.lean ====
section
/-! DEFINITION. The commands and the timer of the placement log (spec/08_placement_log.md, R147 to R150). -/

namespace Sys2Proof.Machine

/-- The triggers SET-LOG takes (R147). -/
def isTrigger (n : Nat) : Bool := n == 128 || n == 256 || n == 512 || n == 896

/-- The age timer after a SET-LOG (R147). -/
def Log.ageAfterSet (l : Log) (trigger timeout : Nat) : Option Nat :=
  if 1 ≤ l.records.length ∧ l.records.length < trigger ∧ (l.ageTimer.isSome ∨ l.aged = false) then
    some (Config.ticksPer100ms * timeout)
  else none

/-- The log after a SET-LOG (R147). -/
def Log.setLog (policy : Policy) (trigger timeout : Nat) (l : Log) : Log :=
  { l with policy := policy, trigger := trigger, ageTimeout := timeout, overwritten := 0
           ageTimer := l.ageAfterSet trigger timeout }

/-- SET-LOG (R147). -/
def setLogCmd (p : List Byte) (s : State) : CmdResult :=
  match readSetLog p with
  | none => .refused .badLength []
  | some a =>
    match policyOf a.policy with
    | none => .refused .badValue []
    | some policy =>
      if isTrigger a.trigger = false ∨ a.ageTimeout = 0 then .refused .badValue []
      else if policy ≠ s.log.policy ∧ s.control.cell ≠ .stopped then .refused .wrongState []
      else
        .answers (syncLog { s with log := s.log.setLog policy a.trigger a.ageTimeout })
          (u16 s.log.overwritten ++ u16 s.log.records.length ++ u16 s.log.reserved)

def execSetLog (tag : Byte) (payload : List Byte) (s : State) : Host.Outcome State Fault Refusal :=
  live (command 72 tag (setLogCmd payload)) s

/-- The log after a FETCH-LOG of `n` (R150). -/
def Log.fetch (n : Nat) (l : Log) : Log :=
  let t := { l with records := l.records.drop n, aged := false }
  { t with ageTimer := t.freshAge }

/-- FETCH-LOG's results (R150, 11.7): the counts as they stand after the removal. -/
def Log.fetched (n : Nat) (l : Log) : List Byte :=
  u8 (l.records.take n).length :: u16 (l.fetch n).records.length ++ u16 l.reserved ++
    (l.records.take n).flatMap Placement.bytes

/-- FETCH-LOG (R150). -/
def fetchLogCmd (p : List Byte) (s : State) : CmdResult :=
  match readOne p with
  | none => .refused .badLength []
  | some n =>
    if 1 ≤ n ∧ n ≤ 4 then .acts (syncLog { s with log := s.log.fetch n }) (s.log.fetched n)
    else .refused .badValue []

def execFetchLog (tag : Byte) (payload : List Byte) (s : State) : Host.Outcome State Fault Refusal :=
  live (command 73 tag (fetchLogCmd payload)) s

/-- AGE_TIMER_EXPIRY (R149): the AGED cause comes to hold and the timer stops. -/
def ageTimerExpiryEvent (s : State) : State :=
  if s.log.ageTimer.isSome then syncLog { s with log := { s.log with aged := true, ageTimer := none } } else s

def execAgeTimerExpiry (s : State) : Host.Outcome State Fault Refusal := live ageTimerExpiryEvent s

end Sys2Proof.Machine
end

