-- ==== Sys2Proof/Machine/Maps.lean ====
section
/-! DEFINITION. The map commands (spec/01_wafer_maps.md, R5 to R15). -/

namespace Sys2Proof.Machine

/-- No marks. -/
def Marks.none : Marks := ⟨false, false, false, false⟩

/-- A site at MAP-OPEN (Table 1-2). -/
def Site.undelivered : Site := { state := .void, bin := 63, marks := .none, attempts := 0 }

/-- A site delivered with a bin (R8). -/
def Site.delivered (bin : Nat) : Site :=
  { state := if bin = 63 then .void else .present, bin := bin, marks := .none, attempts := 0 }

/-- A slot just opened (R6). -/
def Slot.opened (t : DieType) (rows cols : Nat) (expected : Option Text) : Slot :=
  { state := .loading, dieType := t, rows := rows, cols := cols, expectedId := expected, waferId := none
    idLock := false, rowOffset := 0, colOffset := 0, delivered := [], floorRow := 0, disposal := 0
    exhausted := false, sites := List.replicate rows (List.replicate cols .undelivered) }

/-- MAP-OPEN (R6). -/
def mapOpenCmd (p : List Byte) (s : State) : CmdResult :=
  match readMapOpen p with
  | none => .refused .badLength []
  | some a =>
    match Quad.ofNumber a.slot with
    | none => .refused .badValue []
    | some i =>
      if (s.slots.get i).state ≠ .empty then .refused .wrongState []
      else
        match Quad.ofNumber a.dieType, optText 12 a.idPresent a.id with
        | some t, some expected =>
          if 1 ≤ a.rows ∧ 1 ≤ a.cols ∧ a.rows * a.cols ≤ Config.maxSites then
            .answers { s with slots := s.slots.set i (.opened t a.rows a.cols expected) } []
          else .refused .badValue []
        | _, _ => .refused .badValue []

def execMapOpen (tag : Byte) (payload : List Byte) (s : State) : Host.Outcome State Fault Refusal :=
  live (command 1 tag (mapOpenCmd payload)) s

/-- The sites of a delivered row (R8). -/
def rowSites (runs : List Run) : List Site := runs.flatMap fun r => List.replicate r.count (.delivered r.bin)

/-- A row number joins the delivered rows: it stands there once, the lower rows before it and the higher ones after
it (R8). -/
def insertRow (r : Nat) (rows : List Nat) : List Nat :=
  rows.filter (fun k => decide (k < r)) ++ r :: rows.filter fun k => decide (r < k)

/-- Deliver one row: it is written over entirely and joins the delivered rows (R8). -/
def Slot.deliver (r : Nat) (runs : List Run) (sl : Slot) : Slot :=
  { sl with sites := sl.sites.set r (rowSites runs), delivered := insertRow r sl.delivered }

/-- Deliver row entries from a first row on. -/
def Slot.deliverAll (first : Nat) : List (List Run) → Slot → Slot
  | [], sl => sl
  | e :: rest, sl => Slot.deliverAll (first + 1) rest (sl.deliver first e)

/-- MAP-ROWS (R7, R8). -/
def mapRowsCmd (p : List Byte) (s : State) : CmdResult :=
  match readMapRows p with
  | none => .refused .badLength []
  | some a =>
    match Quad.ofNumber a.slot with
    | none => .refused .badValue []
    | some i =>
      let sl := s.slots.get i
      if sl.state ≠ .loading then .refused .wrongState []
      else if ¬ (a.first + a.entries.length ≤ sl.rows ∧
          a.entries.all (fun e => e.all fun r => decide (1 ≤ r.count ∧ r.count ≤ 255 ∧ r.bin ≤ 63))) then
        .refused .badValue []
      else if ¬ (a.entries.all fun e => decide ((e.map (·.count)).sum = sl.cols)) then .refused .badLength []
      else
        let sl' := sl.deliverAll a.first a.entries
        .answers { s with slots := s.slots.set i sl' } (u8 sl'.delivered.length :: u16 (sl'.count .present))

def execMapRows (tag : Byte) (payload : List Byte) (s : State) : Host.Outcome State Fault Refusal :=
  live (command 2 tag (mapRowsCmd payload)) s

/-- The lowest undelivered row of a slot, if any (R9). -/
def Slot.lowestUndelivered (sl : Slot) : Option Nat :=
  (List.range sl.rows).find? fun r => !sl.delivered.contains r

/-- A slot whose map is sealed (R9). -/
def Slot.sealed (sl : Slot) : Slot := { sl with state := .ready, floorRow := 0, disposal := 0, exhausted := false }

/-- MAP-CLOSE (R9). -/
def mapCloseCmd (p : List Byte) (s : State) : CmdResult :=
  match readMapClose p with
  | none => .refused .badLength []
  | some a =>
    match Quad.ofNumber a.slot with
    | none => .refused .badValue []
    | some i =>
      let sl := s.slots.get i
      if sl.state ≠ .loading then .refused .wrongState []
      else if Config.maxSites < a.expected then .refused .badValue []
      else
        match sl.lowestUndelivered with
        | some r => .refused .incomplete [u8 r]
        | none =>
          if a.expected ≠ sl.count .present then .refused .mismatch (u16 (sl.count .present))
          else
            .answers { s with slots := s.slots.set i sl.sealed } (u16 (sl.count .present))

def execMapClose (tag : Byte) (payload : List Byte) (s : State) : Host.Outcome State Fault Refusal :=
  live (command 3 tag (mapCloseCmd payload)) s

/-- MAP-DROP (R10). -/
def mapDropCmd (p : List Byte) (s : State) : CmdResult :=
  match readOne p with
  | none => .refused .badLength []
  | some n =>
    match Quad.ofNumber n with
    | none => .refused .badValue []
    | some i =>
      if (s.slots.get i).state ≠ .loading ∧ (s.slots.get i).state ≠ .ready then .refused .wrongState []
      else if s.tokens.any (fun t => decide (t.slot = i)) then .refused .busy []
      else .answers { s with slots := s.slots.set i .reset } []

def execMapDrop (tag : Byte) (payload : List Byte) (s : State) : Host.Outcome State Fault Refusal :=
  live (command 4 tag (mapDropCmd payload)) s

/-- One mark under an operation (Table 1-5): `here` present before, `named` in the mark set, `value` in the value
set. -/
def MarkOp.apply (op : MarkOp) (here named value : Bool) : Bool :=
  match op with
  | .add => here || named
  | .remove => here && !named
  | .toggle => if named then !here else here
  | .assign => if named then value else here

/-- A site's marks under an operation (Table 1-5). -/
def MarkOp.marks (op : MarkOp) (set value m : Marks) : Marks :=
  ⟨op.apply m.edge set.edge value.edge, op.apply m.hold set.hold value.hold,
    op.apply m.retest set.retest value.retest, op.apply m.visual set.visual value.visual⟩

/-- A place lies in the rectangle of a MAP-MARK. -/
def MapMarkArgs.covers (a : MapMarkArgs) (r c : Nat) : Bool :=
  decide (a.row0 ≤ r) && decide (r ≤ a.row1) && decide (a.col0 ≤ c) && decide (c ≤ a.col1)

/-- The sites after a MAP-MARK (R12). -/
def markSites (a : MapMarkArgs) (op : MarkOp) (sites : List (List Site)) : List (List Site) :=
  sites.zipIdx.map fun row => row.1.zipIdx.map fun x =>
    if a.covers row.2 x.2 then { x.1 with marks := op.marks a.marks a.values x.1.marks } else x.1

/-- The number of sites whose marks a MAP-MARK changes (R12). -/
def markChanges (a : MapMarkArgs) (op : MarkOp) (sites : List (List Site)) : Nat :=
  (sites.zipIdx.map fun row => (row.1.zipIdx.filter fun x =>
    a.covers row.2 x.2 && decide (op.marks a.marks a.values x.1.marks ≠ x.1.marks)).length).sum

/-- MAP-MARK (R11 to R13). -/
def mapMarkCmd (p : List Byte) (s : State) : CmdResult :=
  match readMapMark p with
  | none => .refused .badLength []
  | some a =>
    match Quad.ofNumber a.slot with
    | none => .refused .badValue []
    | some i =>
      let sl := s.slots.get i
      if sl.state ≠ .ready ∧ sl.state ≠ .mounted ∧ sl.state ≠ .unmounting then .refused .wrongState []
      else
        match markOpOf a.op with
        | none => .refused .badValue []
        | some op =>
          if a.row0 ≤ a.row1 ∧ a.col0 ≤ a.col1 ∧ a.row1 < sl.rows ∧ a.col1 < sl.cols then
            let t := { s with slots := s.slots.set i { sl with sites := markSites a op sl.sites, exhausted := false } }
            let n := u16 (markChanges a op sl.sites)
            if sl.state = .mounted then .acts (selectionChange t) n else .answers t n
          else .refused .badValue []

def execMapMark (tag : Byte) (payload : List Byte) (s : State) : Host.Outcome State Fault Refusal :=
  live (command 5 tag (mapMarkCmd payload)) s

/-- A run of a MAP-READ reply: adjacent sites that agree in state, bin and marks (R14). -/
structure SiteRun where
  count : Nat
  state : SiteState
  bin : Nat
  marks : Marks
  deriving DecidableEq, Repr

/-- Sites as runs (R14). -/
def siteRuns : List Site → List SiteRun
  | [] => []
  | x :: rest =>
    match siteRuns rest with
    | [] => [⟨1, x.state, x.bin, x.marks⟩]
    | r :: more =>
      if r.state = x.state ∧ r.bin = x.bin ∧ r.marks = x.marks then { r with count := r.count + 1 } :: more
      else ⟨1, x.state, x.bin, x.marks⟩ :: r :: more

/-- A run's three bytes (11.7). -/
def SiteRun.bytes (r : SiteRun) : List Byte := [u8 r.count, u8 (r.state.code + 8 * r.marks.toNat), u8 r.bin]

/-- MAP-READ's results: run count, next column (255 for absent), at most 48 runs (R14, 11.7). -/
def Slot.readRow (sl : Slot) (row start : Nat) : List Byte :=
  let runs := (siteRuns (((sl.sites[row]?).getD []).drop start)).take Config.maxRuns
  let next := start + (runs.map (·.count)).sum
  u8 runs.length :: u8 (if next < sl.cols then next else 255) :: runs.flatMap SiteRun.bytes

/-- MAP-READ (R14). -/
def mapReadCmd (p : List Byte) (s : State) : CmdResult :=
  match readMapRead p with
  | none => .refused .badLength []
  | some a =>
    match Quad.ofNumber a.slot with
    | none => .refused .badValue []
    | some i =>
      let sl := s.slots.get i
      if sl.state = .empty then .refused .wrongState []
      else
        match a.start with
        | none => .refused .badValue []
        | some start =>
          if a.row < sl.rows ∧ start.getD 0 < sl.cols then .answers s (sl.readRow a.row (start.getD 0))
          else .refused .badValue []

def execMapRead (tag : Byte) (payload : List Byte) (s : State) : Host.Outcome State Fault Refusal :=
  live (command 6 tag (mapReadCmd payload)) s

/-- The table a MAP-SUMMARY names: while the slot is MOUNTING, MOUNTED or UNMOUNTING (R15). -/
def State.summaryTable (s : State) (i : SlotId) : Option Table :=
  match (s.slots.get i).state with
  | .mounting | .mounted | .unmounting => s.tableOfSlot i
  | .empty | .loading | .ready => none

/-- MAP-SUMMARY's results (R15). -/
def State.summary (s : State) (i : SlotId) : List Byte :=
  let sl := s.slots.get i
  [sl.state.code, u8 sl.dieType.number, u8 sl.rows, u8 sl.cols] ++ optional 12 sl.expectedId ++
    optional 12 sl.waferId ++ [flag sl.idLock, i8 sl.rowOffset, i8 sl.colOffset] ++
    optional 1 ((s.summaryTable i).map fun t => [u8 (tableCode t)]) ++
    [u8 sl.delivered.length, u8 sl.floorRow] ++ u16 sl.disposal ++ [flag sl.exhausted] ++
    u16 (sl.count .void) ++ u16 (sl.count .present) ++ u16 (sl.count .reserved) ++ u16 (sl.count .taken) ++
    u16 (sl.count .missed)

/-- MAP-SUMMARY (R15). -/
def mapSummaryCmd (p : List Byte) (s : State) : CmdResult :=
  match readOne p with
  | none => .refused .badLength []
  | some n =>
    match Quad.ofNumber n with
    | none => .refused .badValue []
    | some i => .answers s (s.summary i)

def execMapSummary (tag : Byte) (payload : List Byte) (s : State) : Host.Outcome State Fault Refusal :=
  live (command 7 tag (mapSummaryCmd payload)) s

end Sys2Proof.Machine
end

