-- ==== Sys2Proof/Machine/Production.lean ====
section
/-! DEFINITION. Production control (spec/09_production_control.md): running, holding, stopping, gating, waiting, and
the commands on single units. -/

namespace Sys2Proof.Machine

/-- RUN's own checks (R154). -/
def State.mayRun (s : State) : Bool :=
  decide (s.links.pk.state = .up) && decide (s.links.ix.state = .up) &&
  (match s.control.gating with
   | .all => s.usable .one && s.usable .two
   | .any => s.usable .one || s.usable .two) &&
  decide (s.strip.state ≠ .loading) && decide (s.strip.state ≠ .ejecting)

/-- RUN (R153, R154). LOAD-STRIP or EJECT-STRIP follows in the same event, by the strip state. -/
def runCmd (p : List Byte) (s : State) : CmdResult :=
  match readNothing p with
  | none => .refused .badLength []
  | some () =>
    if (s.control.cell = .stopped ∨ s.control.cell = .held) ∧ s.mayRun then
      .acts { s with control := { s.control with cell := .running, holdCause := none } } []
    else .refused .wrongState []

def execRun (tag : Byte) (payload : List Byte) (s : State) : Host.Outcome State Fault Refusal :=
  live (command 80 tag (runCmd payload)) s

/-- HOLD (R153, R155). -/
def holdCmd (p : List Byte) (s : State) : CmdResult :=
  match readNothing p with
  | none => .refused .badLength []
  | some () =>
    match s.control.cell with
    | .running => .acts (enterHolding .request s) []
    | .holding | .held => .answers s []
    | .stopped | .stopping => .refused .wrongState []

def execHold (tag : Byte) (payload : List Byte) (s : State) : Host.Outcome State Fault Refusal :=
  live (command 81 tag (holdCmd payload)) s

/-! ## STOP (R158) -/

/-- ABORT is sent in place of the outstanding order (R169). -/
def sendAbort (l : Link) (s : State) : State := sendOrder l .abort [] (endOrder l s)

/-- The kind of the order outstanding on a link. -/
def State.orderOn (s : State) (l : Link) : Option OrderKind := (s.links.get l).outstanding.map (·.kind)

/-- STOP on a table link (R51). -/
def stopTable (k : Table) (s : State) : State :=
  match s.orderOn (tableLink k) with
  | some .loadWafer | some .unloadWafer | some .step => sendAbort (tableLink k) s
  | _ => s

/-- STOP on PK (R103). -/
def stopPicker (s : State) : State :=
  match s.orderOn .pk with
  | some .pick | some .put => setPicker .aborting (sendAbort .pk s)
  | _ => s

/-- The abort origin a collet state gives (R127). -/
def ColletState.origin : ColletState → Option AbortOrigin
  | .taking => some .taking
  | .bonding => some .bonding
  | .dwell => some .dwell
  | .idle | .purging | .aborting => none

/-- STOP on a bonder link (R127). -/
def stopLane (n : Lane) (s : State) : State :=
  match s.orderOn (bonderLink n), (s.lanes.get n).collet.origin with
  | some _, some o =>
    (sendAbort (bonderLink n) s).updLane n fun r => { r with collet := .aborting, abort := some o }
  | _, _ => s

/-- STOP on IX (R84). -/
def stopStrip (s : State) : State :=
  match s.orderOn .ix with
  | some .loadStrip | some .ejectStrip => sendAbort .ix s
  | _ => s

/-- The effect of a STOP taken in RUNNING, HOLDING or HELD (R158); the nests follow in the same event (R109, R125). -/
def stopEffect (s : State) : State :=
  let s := endWait .two (endWait .one { s with control := { s.control with cell := .stopping, holdCause := none } })
  stopStrip (stopLane .two (stopLane .one (stopPicker (stopTable .b (stopTable .a s)))))

/-- STOP (R153, R158). -/
def stopCmd (p : List Byte) (s : State) : CmdResult :=
  match readNothing p with
  | none => .refused .badLength []
  | some () =>
    match s.control.cell with
    | .running | .holding | .held => .acts (stopEffect s) []
    | .stopped | .stopping => .answers s []

def execStop (tag : Byte) (payload : List Byte) (s : State) : Host.Outcome State Fault Refusal :=
  live (command 82 tag (stopCmd payload)) s

/-- SET-CELL (R153, R160). -/
def setCellCmd (p : List Byte) (s : State) : CmdResult :=
  match readTwo p with
  | none => .refused .badLength []
  | some (g, t) =>
    if s.control.cell ≠ .stopped then .refused .wrongState []
    else
      match gatingOf g with
      | none => .refused .badValue []
      | some g =>
        if t = 0 then .refused .badValue []
        else
          .acts { s with control := { s.control with gating := g, timeout := t } }
            [s.control.gating.code, u8 s.control.timeout]

def execSetCell (tag : Byte) (payload : List Byte) (s : State) : Host.Outcome State Fault Refusal :=
  live (command 83 tag (setCellCmd payload)) s

/-! ## Single units (R164, R165) -/

/-- The unit at a row and col of the unit table (R164). -/
def Strip.unitAt (t : Strip) (row col : Nat) : Option StripUnit :=
  t.units.find? fun u => decide (u.row = row) && decide (u.col = col)

/-- The checks that RELAX-UNIT and VOID-UNIT share (R153, R164), then the effect on the unit found. -/
def unitCmd (p : List Byte) (f : StripUnit → State → CmdResult) (s : State) : CmdResult :=
  match readTwo p with
  | none => .refused .badLength []
  | some (row, col) =>
    if s.strip.state ≠ .active then .refused .wrongState []
    else if 7 < row ∨ 39 < col then .refused .badValue []
    else
      match s.strip.unitAt row col with
      | none => .refused .notFound []
      | some u => if u.resolved then .refused .wrongState [] else f u s

/-- Rewrite the units at a unit's row and col. -/
def State.mapUnit (u : StripUnit) (f : StripUnit → StripUnit) (s : State) : State :=
  { s with strip := { s.strip with units := s.strip.units.map fun v =>
      if v.row = u.row ∧ v.col = u.col then f v else v } }

/-- RELAX-UNIT on the unit found (R164). -/
def relaxUnit (u : StripUnit) (s : State) : CmdResult :=
  .acts (selectionChange (s.mapUnit u fun v => { v with relaxed := true })) [flag u.relaxed]

def execRelaxUnit (tag : Byte) (payload : List Byte) (s : State) : Host.Outcome State Fault Refusal :=
  live (command 84 tag (unitCmd payload relaxUnit)) s

/-- A position that VOID-UNIT abandons (R165). -/
def Position.voids (p : Position) : Bool := decide (p.state = .empty) || decide (p.state = .allocated)

/-- A unit after VOID-UNIT (R165). -/
def StripUnit.void (u : StripUnit) : StripUnit :=
  { u with
    state := .voided
    positions := u.positions.map fun p => if p.voids then { p with state := .abandoned } else p }

/-- A token destined to a unit. -/
def Token.boundFor (t : Token) (index : Nat) : Bool := t.dest.any fun d => decide (d.unit = index)

/-- VOID-UNIT on the unit found (R165). -/
def voidUnit (u : StripUnit) (s : State) : CmdResult :=
  let t := s.mapUnit u StripUnit.void
  .acts { t with tokens := s.tokens.map fun k => if k.boundFor u.index then { k with dest := none } else k }
    [u8 (u.positions.filter Position.voids).length, u8 (s.tokens.filter (·.boundFor u.index)).length]

def execVoidUnit (tag : Byte) (payload : List Byte) (s : State) : Host.Outcome State Fault Refusal :=
  live (command 85 tag (unitCmd payload voidUnit)) s

/-! ## Steps of the part -/

/-- The step ENTER_HELD (R156). -/
def execEnterHeld (s : State) : Host.Outcome State Fault Refusal := live heldDue s

/-- The step ENTER_STOPPED (R159). -/
def execEnterStopped (s : State) : Host.Outcome State Fault Refusal := live stoppedDue s

/-- The step UNIT_REASSIGNMENT (R161): a lane whose next position changes ends its waiting. -/
def reassignStep (s : State) : State := endWaitDue .two (endWaitDue .one (reassignDue s))

def execUnitReassignment (s : State) : Host.Outcome State Fault Refusal := live reassignStep s

/-- STARVATION_EXPIRY (R163). -/
def starvationExpiryEvent (n : Lane) (s : State) : State :=
  if (s.control.waits.get n).waiting ∧ (s.control.waits.get n).timer.isSome then
    let t := s.updWait n fun w => { w with starved := true, timer := none }
    raise (starvedDetail n t) t
  else s

def execStarvationExpiry (n : Lane) (s : State) : Host.Outcome State Fault Refusal :=
  live (starvationExpiryEvent n) s

end Sys2Proof.Machine
end

