-- ==== Sys2Proof/Machine/Strips.lean ====
section
/-! DEFINITION. The strip controller (spec/04_strips_and_units.md): strip types, arrival, units, done and eject. -/

namespace Sys2Proof.Machine

/-- SET-STRIP-TYPE (R65). -/
def setStripTypeCmd (p : List Byte) (s : State) : CmdResult :=
  match readSetStripType p with
  | none => .refused .badLength []
  | some a =>
    match Quad.ofNumber a.code with
    | none => .refused .badValue []
    | some c =>
      if s.control.cell.atRest = false then .refused .wrongState []
      else
        let done (t : Option StripType) : CmdResult :=
          .answers { s with stripTypes := s.stripTypes.set c t } [flag (s.stripTypes.get c).isSome]
        match flagOf a.typePresent with
        | none => .refused .badValue []
        | some false => done none
        | some true =>
          match a.checked with
          | none => .refused .badValue []
          | some t => if stacksBelow 1 t.positions then done (some t) else .refused .badValue []

def execSetStripType (tag : Byte) (payload : List Byte) (s : State) : Host.Outcome State Fault Refusal :=
  live (command 40 tag (setStripTypeCmd payload)) s

/-- The lock a STRIP-LOCK gives, when in range: a code 0 to 3, or unlock. -/
def lockOf : Option (Option Nat) → Option (Option TypeCode)
  | some none => some none
  | some (some n) => (Quad.ofNumber n).map some
  | none => none

/-- STRIP-LOCK (R66). -/
def stripLockCmd (p : List Byte) (s : State) : CmdResult :=
  match readStripLock p with
  | none => .refused .badLength []
  | some a =>
    match lockOf a with
    | none => .refused .badValue []
    | some l => .answers { s with stripLock := l } (optional 1 (s.stripLock.map fun c => [u8 c.number]))

def execStripLock (tag : Byte) (payload : List Byte) (s : State) : Host.Outcome State Fault Refusal :=
  live (command 41 tag (stripLockCmd payload)) s

/-- A unit entry's seven bytes (11.7). -/
def StripUnit.bytes (u : StripUnit) : List Byte :=
  let states := (u.positions.zipIdx.map fun p => p.1.state.code * 8 * 8 ^ p.2).sum
  u16 u.index ++ [u8 u.row, u8 u.col,
    u8 (u.state.code + (if u.relaxed then 8 else 0) + (if u.lane = .two then 16 else 0) +
      (if u.group.isSome then 32 else 0) + 64 * (u.group.map Quad.number).getD 0)] ++
    u16 (u.positions.length + states)

/-- A unit index and position number, or none. -/
def destBytes (d : Option Dest) : List Byte := optional 3 (d.map fun d => u16 d.unit ++ [u8 d.pos])

/-- READ-UNITS's results (R85, 11.7). -/
def Strip.results (t : Strip) (first : Nat) : List Byte :=
  let entries := (t.units.drop first).take Config.maxUnitEntries
  let next := first + entries.length
  [t.state.code, flag t.done] ++ optional 12 t.stripId ++ optional 1 (t.typeCode.map fun c => [u8 c]) ++
    optional 2 (t.pitch.map u16) ++ optional 1 (t.verdict.map fun v => [v.code]) ++ u16 t.units.length ++
    [UnitState.opened, .assembling, .complete, .flawed, .skipped, .voided].flatMap (fun st => u16 (t.countUnits st)) ++
    destBytes (t.nextPosition .one) ++ destBytes (t.nextPosition .two) ++
    optional 2 (if next < t.units.length then some (u16 next) else none) ++ [u8 entries.length] ++
    entries.flatMap StripUnit.bytes

/-- READ-UNITS (R85). -/
def readUnitsCmd (p : List Byte) (s : State) : CmdResult :=
  match readWord p with
  | none => .refused .badLength []
  | some n =>
    if 320 < n then .refused .badValue []
    else if s.strip.units.length < n then .refused .badValue []
    else .answers s (s.strip.results n)

def execReadUnits (tag : Byte) (payload : List Byte) (s : State) : Host.Outcome State Fault Refusal :=
  live (command 42 tag (readUnitsCmd payload)) s

/-! ## Steps of the part -/

/-- The step LOAD_STRIP (R68). -/
def execLoadStrip (s : State) : Host.Outcome State Fault Refusal := live loadStripDue s

/-- The step STRIP_DONE (R82). -/
def execStripDone (s : State) : Host.Outcome State Fault Refusal := live stripDoneDue s

/-- The step EJECT_STRIP (R83). -/
def execEjectStrip (s : State) : Host.Outcome State Fault Refusal := live ejectStripDue s

/-! ## Arrival (R69 to R73) -/

/-- The places of a strip's units in global serpentine order (R72): columns ascending, rows ascending within an
even-numbered column and descending within an odd-numbered one. -/
def serpentine (rows cols : Nat) : List (Nat × Nat) :=
  (List.range cols).flatMap fun c =>
    (if c % 2 = 0 then List.range rows else (List.range rows).reverse).map fun r => (r, c)

/-- The unit entry of one place (R72, R73). -/
def StripType.unitAt (t : StripType) (skip : Bool) (xouts : List (Nat × Nat)) (index : Nat) (place : Nat × Nat) :
    StripUnit :=
  { index := index, row := place.1, col := place.2
    lane := if place.2 < t.split then .one else .two
    state := if skip || xouts.contains place then .skipped else .opened
    group := none, relaxed := false
    positions := t.positions.map fun p => ⟨p.dieType, p.x, p.y, p.stackOn, .empty⟩ }

/-- The unit table (R72; R73 with every unit SKIPPED). -/
def StripType.units (t : StripType) (skip : Bool) (xouts : List (Nat × Nat)) : List StripUnit :=
  (serpentine t.rows t.cols).zipIdx.map fun p => t.unitAt skip xouts p.2 p.1

/-- The layout chosen at an arrival: the type under the chosen code, if there is one (R69). -/
def State.layoutFor (s : State) (code : Nat) : Option StripType := (Quad.ofNumber code).bind s.stripTypes.get

/-- The measured pitch is within the tolerance of the nominal pitch, in either direction (R70). -/
def StripType.pitchFits (t : StripType) (measured : Nat) : Bool :=
  decide (measured ≤ t.pitch + t.tolerance) && decide (t.pitch ≤ measured + t.tolerance)

/-- The verdict of the arrival checks, from the layout, the pitch and the recipes as promoted (R69 to R71). -/
def arrivalVerdict (layout : Option StripType) (measured : Nat) (recipes : RecipeStore) : Verdict :=
  match layout with
  | none => .type
  | some t =>
    if t.pitchFits measured then
      if t.positions.all fun p => (recipes.active.get p.dieType).isSome then .accepted else .recipe
    else .pitch

/-- The effect of an ARRIVED (R69 to R73). -/
def arrivedEffect (id : Text) (reported measured : Nat) (xouts : List (Nat × Nat)) (s : State) : State :=
  let code := match s.stripLock with
    | some c => c.number
    | none => reported
  let layout := s.layoutFor code
  let s := promote s
  let verdict := arrivalVerdict layout measured s.recipes
  let units := match layout with
    | none => []
    | some t => t.units (decide (verdict ≠ .accepted)) xouts
  { s with strip :=
    { state := .active, done := false, stripId := some id, typeCode := some code, layout := layout
      pitch := some measured, verdict := some verdict, units := units } }

/-- ARRIVED (R69): strip-id printable, x-out count at most 12, the entries beyond the count not read. -/
def arrivedEvent (l : Link) (number : Byte) (id : Text) (code : Byte) (pitch : BitVec 16) (count : Byte)
    (xouts : List (Byte × Byte)) (s : State) : State :=
  takeReport l number
    (fun k => decide (k = .loadStrip) && isText 12 id && decide (count.toNat ≤ 12))
    (completing l (arrivedEffect id code.toNat pitch.toNat
      ((xouts.take count.toNat).map fun p => (p.1.toNat, p.2.toNat)))) s

def execArrived (l : Link) (number : Byte) (id : Text) (code : Byte) (pitch : BitVec 16) (count : Byte)
    (xouts : List (Byte × Byte)) (s : State) : Host.Outcome State Fault Refusal :=
  live (arrivedEvent l number id code pitch count xouts) s

/-- EJECTED (R83): the record takes the values of NONE; LOAD-STRIP follows in a RUNNING cell. -/
def ejectedEvent (l : Link) (number : Byte) (s : State) : State :=
  takeReport l number (fun k => decide (k = .ejectStrip)) (completing l fun t => { t with strip := .reset }) s

def execEjected (l : Link) (number : Byte) (s : State) : Host.Outcome State Fault Refusal :=
  live (ejectedEvent l number) s

/-- ABORTED on IX (R84); its holds die is not looked at. -/
def abortedIxEvent (number : Byte) (s : State) : State :=
  takeReport .ix number (fun k => decide (k = .abort)) (completing .ix stripOrderLost) s

def execAbortedIx (number _holds : Byte) (s : State) : Host.Outcome State Fault Refusal :=
  live (abortedIxEvent number) s

end Sys2Proof.Machine
end

