-- ==== Sys2Proof/Machine/CommandLink.lean ====
section
/-! DEFINITION. The command link and the condition unit (spec/11_command_link_and_conditions.md): the link's own commands,
frames in, records out, resets and supply. -/

namespace Sys2Proof.Machine

/-! ## The link's own commands (R191 to R196) -/

/-- PING (R191). -/
def pingCmd (p : List Byte) (s : State) : CmdResult :=
  if p.length ≤ 239 then .answers s p
  else if p.length = 240 then .refused .noRoom []
  else .refused .badLength []

def execPing (tag : Byte) (payload : List Byte) (s : State) : Host.Outcome State Fault Refusal :=
  live (command 112 tag (pingCmd payload)) s

/-- The pending flags of the nine conditions. -/
def Conds.pendingFlags (c : Conds) : List Byte := CondId.all.map fun k => flag (c.get k).detail.isSome

/-- The nine notice enables. -/
def Conds.enableFlags (c : Conds) : List Byte := CondId.all.map fun k => flag (c.get k).enable

/-- STATUS on one lane (R192). -/
def State.laneStatus (s : State) (n : Lane) : List Byte :=
  let r := s.lanes.get n
  let w := s.control.waits.get n
  [flag r.enable, flag r.degraded, flag (s.usable n), r.nest.code, r.collet.code] ++
    optional 1 (w.reason.map fun x => [x.code]) ++ [flag w.starved]

/-- STATUS on one table (R192). -/
def TableRec.status (r : TableRec) : List Byte :=
  [r.state.code] ++ optional 1 (r.slot.map fun i => [u8 i.number]) ++ [flag r.faulted]

/-- STATUS on one link (R192). -/
def LinkRec.status (r : LinkRec) : List Byte := [r.state.code] ++ optional 1 (r.cause.map fun c => [c.code])

/-- STATUS's results (R192). -/
def State.statusResults (s : State) : List Byte :=
  [s.control.cell.code] ++ optional 1 (s.control.holdCause.map fun c => [c.code]) ++ [s.control.gating.code] ++
    [s.strip.state.code, flag s.strip.done] ++ optional 12 s.strip.stripId ++
    s.laneStatus .one ++ s.laneStatus .two ++
    [s.picker.state.code, u8 s.tokens.length] ++
    s.tables.a.status ++ s.tables.b.status ++
    s.links.ta.status ++ s.links.tb.status ++ s.links.pk.status ++ s.links.b1.status ++ s.links.b2.status ++
    s.links.ix.status ++
    u16 s.log.records.length ++ u16 s.log.reserved ++ u16 s.log.overwritten ++ u16 s.host.discards ++
    s.conds.pendingFlags ++ s.conds.enableFlags

/-- STATUS (R192). -/
def statusCmd (p : List Byte) (s : State) : CmdResult :=
  match readNothing p with
  | none => .refused .badLength []
  | some () => .answers s s.statusResults

def execStatus (tag : Byte) (payload : List Byte) (s : State) : Host.Outcome State Fault Refusal :=
  live (command 113 tag (statusCmd payload)) s

/-- The pending condition of highest priority whose number is the start priority or greater (R194). -/
def Conds.first (c : Conds) (start : Nat) : Option CondId :=
  CondId.all.find? fun k => decide (start ≤ k.priority) && (c.get k).detail.isSome

/-- A read's effect on the condition returned (R194). -/
def conditionRead (k : CondId) (s : State) : State :=
  match k with
  | .log => syncLog { s with log := { s.log with aged := false } }
  | .unitStarved => s
  | .stationFault | .cellHeld | .laneOut | .waferExhausted | .mountDone | .stripDone | .linkDiscard => cease k s

/-- The code and detail READ-CONDITION returns (R194, Table 11-5). -/
def Conds.returned (c : Conds) : Option CondId → List Byte
  | none => [0]
  | some k => u8 k.priority :: ((c.get k).detail.map Detail.bytes).getD []

/-- READ-CONDITION (R194). -/
def readConditionCmd (p : List Byte) (s : State) : CmdResult :=
  match readOne p with
  | none => .refused .badLength []
  | some start =>
    if 1 ≤ start ∧ start ≤ 9 then
      let k := s.conds.first start
      let t := match k with
        | none => s
        | some k => conditionRead k s
      .answers t (s.conds.returned k ++ t.conds.pendingFlags)
    else .refused .badValue []

def execReadCondition (tag : Byte) (payload : List Byte) (s : State) : Host.Outcome State Fault Refusal :=
  live (command 114 tag (readConditionCmd payload)) s

/-- The nine enables of a SET-NOTICES in range, written into the conditions. -/
def NoticeFlags.write (f : NoticeFlags) (c : Conds) : Option Conds :=
  match flagOf f.stationFault, flagOf f.cellHeld, flagOf f.laneOut, flagOf f.unitStarved, flagOf f.waferExhausted,
      flagOf f.mountDone, flagOf f.log, flagOf f.stripDone, flagOf f.linkDiscard with
  | some a, some b, some d, some e, some g, some h, some i, some j, some k =>
    some ⟨{ c.stationFault with enable := a }, { c.cellHeld with enable := b }, { c.laneOut with enable := d },
      { c.unitStarved with enable := e }, { c.waferExhausted with enable := g }, { c.mountDone with enable := h },
      { c.log with enable := i }, { c.stripDone with enable := j }, { c.linkDiscard with enable := k }⟩
  | _, _, _, _, _, _, _, _, _ => none

/-- SET-NOTICES (R195). -/
def setNoticesCmd (p : List Byte) (s : State) : CmdResult :=
  match readNotices p with
  | none => .refused .badLength []
  | some f =>
    match f.write s.conds with
    | none => .refused .badValue []
    | some c => .answers { s with conds := c } (s.conds.enableFlags ++ s.conds.pendingFlags)

def execSetNotices (tag : Byte) (payload : List Byte) (s : State) : Host.Outcome State Fault Refusal :=
  live (command 115 tag (setNoticesCmd payload)) s

/-- RESET-CELL (R196): its DONE reply is sent in full first, so the reset follows when that reply has gone out. -/
def resetCellCmd (p : List Byte) (s : State) : CmdResult :=
  match readNothing p with
  | none => .refused .badLength []
  | some () => .answers { s with host := { s.host with resetDue := true } } []

def execResetCell (tag : Byte) (payload : List Byte) (s : State) : Host.Outcome State Fault Refusal :=
  live (command 116 tag (resetCellCmd payload)) s

/-! ## Taking commands (R188, R189) -/

/-- The index of commands (Table 11-1). -/
def commandOf : Nat → Option (List Byte → State → CmdResult)
  | 1 => some mapOpenCmd | 2 => some mapRowsCmd | 3 => some mapCloseCmd | 4 => some mapDropCmd
  | 5 => some mapMarkCmd | 6 => some mapReadCmd | 7 => some mapSummaryCmd
  | 16 => some setBinsCmd | 17 => some useBankCmd | 18 => some setGroupsCmd | 19 => some readClassesCmd
  | 20 => some stageRecipeCmd | 21 => some promoteCmd | 22 => some readRecipeCmd
  | 32 => some mountCmd | 33 => some dismountCmd | 34 => some setWaferIdCmd | 35 => some setOffsetCmd
  | 40 => some setStripTypeCmd | 41 => some stripLockCmd | 42 => some readUnitsCmd
  | 48 => some readTokensCmd
  | 56 => some setLaneCmd | 57 => some readLaneCmd | 58 => some restoreLaneCmd
  | 64 => some setForceCmd | 65 => some readForceCmd
  | 72 => some setLogCmd | 73 => some fetchLogCmd
  | 80 => some runCmd | 81 => some holdCmd | 82 => some stopCmd | 83 => some setCellCmd
  | 84 => some (fun p => unitCmd p relaxUnit) | 85 => some (fun p => unitCmd p voidUnit)
  | 96 => some enableLinkCmd | 97 => some resetLinkCmd | 98 => some disableLinkCmd | 99 => some lockStationIdCmd
  | 100 => some testLinkCmd | 101 => some setLimitsCmd | 102 => some readStationCmd
  | 112 => some pingCmd | 113 => some statusCmd | 114 => some readConditionCmd | 115 => some setNoticesCmd
  | 116 => some resetCellCmd
  | _ => none

/-- A command of a kind outside the index is refused and changes nothing (R189). -/
def unknownKind (kind tag : Byte) (s : State) : State := reply kind.toNat tag [Status.unknownKind.code] s

/-- UNKNOWN_KIND_COMMAND (R189): the row is of kinds outside the index alone. -/
def unknownKindEvent (kind tag : Byte) (s : State) : State :=
  match commandOf kind.toNat with
  | none => unknownKind kind tag s
  | some _ => s

def execUnknownKindCommand (kind tag : Byte) (_payload : List Byte) (s : State) : Host.Outcome State Fault Refusal :=
  live (unknownKindEvent kind tag) s

/-- A command is taken for execution by its kind (R188, R189). -/
def takeCommand (f : Frame) (s : State) : State :=
  match commandOf f.kind.toNat with
  | some c => command f.kind.toNat f.tag (c f.payload) s
  | none => unknownKind f.kind f.tag s

/-- The command link takes the oldest queued frame, when STARTED and the reply before it have been sent (R188). -/
def takeQueued (s : State) : State :=
  match s.host.queue with
  | [] => s
  | f :: rest =>
    if s.host.replyWaits || s.host.startedWaits then s
    else takeCommand f { s with host := { s.host with queue := rest } }

/-! ## Receiving (R187) -/

/-- A frame is discarded (R187). -/
def discardFrame (cause : DiscardCause) (s : State) : State :=
  let n := min 65535 (s.host.discards + 1)
  raise (.linkDiscard cause n) { s with host := { s.host with discards := n } }

/-- FRAME_RECEIVED (R187, R188): a frame with a good check joins the queue if it has room, and the oldest frame is
taken if one may be. -/
def frameReceivedEvent (kind tag : Byte) (payload : List Byte) (check : BitVec 16) (s : State) : State :=
  if 240 < payload.length then discardFrame .length s
  else if crc16 (frameBody kind tag payload) ≠ check then discardFrame .check s
  else if Config.queueCapacity ≤ s.host.queue.length then discardFrame .full s
  else takeQueued { s with host := { s.host with queue := s.host.queue ++ [⟨kind, tag, payload⟩] } }

def execFrameReceived (kind tag : Byte) (payload : List Byte) (check : BitVec 16) (s : State) :
    Host.Outcome State Fault Refusal :=
  live (frameReceivedEvent kind tag payload check) s

/-- A length no frame may have (R187). -/
def lengthBad (length : BitVec 16) : Bool := decide (length.toNat < 2) || decide (242 < length.toNat)

/-- DISCARD_LENGTH (R187). -/
def discardLengthEvent (length : BitVec 16) (s : State) : State :=
  if lengthBad length then discardFrame .length s else s

def execDiscardLength (length : BitVec 16) (s : State) : Host.Outcome State Fault Refusal :=
  live (discardLengthEvent length) s

/-- The rate in baud the straps select (Table 0-3). -/
def Straps.baud (r : Straps) : Nat :=
  match r.crs1, r.crs0 with
  | false, false => 115200
  | false, true => 460800
  | true, false => 921600
  | true, true => 1843200

/-- A gap between two bytes, in CLK25 cycles, of more than 20 byte-times (R187). -/
def gapTooLong (r : Straps) (cycles : Nat) : Bool := decide (Config.gapBits * Config.clockHz < cycles * r.baud)

/-- DISCARD_GAP (R187). -/
def discardGapEvent (cycles : Nat) (s : State) : State :=
  if gapTooLong s.host.rate cycles then discardFrame .gap s else s

def execDiscardGap (cycles : Nat) (s : State) : Host.Outcome State Fault Refusal :=
  live (discardGapEvent cycles) s

/-! ## Sending, resets and supply (R190, R196) -/

/-- The record is the DONE reply to RESET-CELL. -/
def TxRecord.isResetReply : TxRecord → Bool
  | .reply kind _ body => decide (kind = 244) && decide (body = [0])
  | .notice .. | .started .. => false

/-- RECORD_SENT (R188, R190, R196): the record being sent has gone out. After RESET-CELL's reply the part resets; else
the oldest queued frame is taken if one may be. -/
def recordSentEvent (s : State) : State :=
  match s.host.tx with
  | [] => s
  | r :: rest =>
    if r.isResetReply && s.host.resetDue then State.afterReset .command s.pins s.pending
    else takeQueued { s with host := { s.host with tx := rest } }

def execRecordSent (s : State) : Host.Outcome State Fault Refusal := live recordSentEvent s

/-- POWER_ON (R196). -/
def execPowerOn (crs1 crs0 : Bool) (s : State) : Host.Outcome State Fault Refusal :=
  .next (State.afterReset .power ⟨crs1, crs0⟩ s.pending)

/-- RSTN (R196): asserted with the supply up. -/
def execRstn (crs1 crs0 : Bool) (s : State) : Host.Outcome State Fault Refusal :=
  live (fun t => State.afterReset .pin ⟨crs1, crs0⟩ t.pending) s

/-- SUPPLY_FAILS (R196): the record being sent is cut off and the part ceases. -/
def execSupplyFails (s : State) : Host.Outcome State Fault Refusal :=
  live (fun t => { t with powered := false, host := { t.host with tx := [] } }) s

end Sys2Proof.Machine
end

