-- ==== Sys2Proof/Machine/Dispatch.lean ====
section
/-! DEFINITION. One arm per command: its meaning, called by its full name. -/

namespace Sys2Proof.Machine

open Sys2Proof

def exec (i : Instr) (s : State) : Host.Outcome State Fault Refusal :=
  match i with
  | .powerOn crs1 crs0 => Sys2Proof.Machine.execPowerOn crs1 crs0 s
  | .rstn crs1 crs0 => Sys2Proof.Machine.execRstn crs1 crs0 s
  | .frameReceived kind tag payload check => Sys2Proof.Machine.execFrameReceived kind tag payload check s
  | .discardLength length => Sys2Proof.Machine.execDiscardLength length s
  | .discardGap cycles => Sys2Proof.Machine.execDiscardGap cycles s
  | .recordSent => Sys2Proof.Machine.execRecordSent s
  | .unknownKindCommand kind tag payload => Sys2Proof.Machine.execUnknownKindCommand kind tag payload s
  | .mapOpen tag payload => Sys2Proof.Machine.execMapOpen tag payload s
  | .mapRows tag payload => Sys2Proof.Machine.execMapRows tag payload s
  | .mapClose tag payload => Sys2Proof.Machine.execMapClose tag payload s
  | .mapDrop tag payload => Sys2Proof.Machine.execMapDrop tag payload s
  | .mapMark tag payload => Sys2Proof.Machine.execMapMark tag payload s
  | .mapRead tag payload => Sys2Proof.Machine.execMapRead tag payload s
  | .mapSummary tag payload => Sys2Proof.Machine.execMapSummary tag payload s
  | .setBins tag payload => Sys2Proof.Machine.execSetBins tag payload s
  | .useBank tag payload => Sys2Proof.Machine.execUseBank tag payload s
  | .setGroups tag payload => Sys2Proof.Machine.execSetGroups tag payload s
  | .readClasses tag payload => Sys2Proof.Machine.execReadClasses tag payload s
  | .stageRecipe tag payload => Sys2Proof.Machine.execStageRecipe tag payload s
  | .promote tag payload => Sys2Proof.Machine.execPromote tag payload s
  | .readRecipe tag payload => Sys2Proof.Machine.execReadRecipe tag payload s
  | .mount tag payload => Sys2Proof.Machine.execMount tag payload s
  | .dismount tag payload => Sys2Proof.Machine.execDismount tag payload s
  | .setWaferId tag payload => Sys2Proof.Machine.execSetWaferId tag payload s
  | .setOffset tag payload => Sys2Proof.Machine.execSetOffset tag payload s
  | .setStripType tag payload => Sys2Proof.Machine.execSetStripType tag payload s
  | .stripLock tag payload => Sys2Proof.Machine.execStripLock tag payload s
  | .readUnits tag payload => Sys2Proof.Machine.execReadUnits tag payload s
  | .readTokens tag payload => Sys2Proof.Machine.execReadTokens tag payload s
  | .setLane tag payload => Sys2Proof.Machine.execSetLane tag payload s
  | .readLane tag payload => Sys2Proof.Machine.execReadLane tag payload s
  | .restoreLane tag payload => Sys2Proof.Machine.execRestoreLane tag payload s
  | .setForce tag payload => Sys2Proof.Machine.execSetForce tag payload s
  | .readForce tag payload => Sys2Proof.Machine.execReadForce tag payload s
  | .setLog tag payload => Sys2Proof.Machine.execSetLog tag payload s
  | .fetchLog tag payload => Sys2Proof.Machine.execFetchLog tag payload s
  | .run tag payload => Sys2Proof.Machine.execRun tag payload s
  | .hold tag payload => Sys2Proof.Machine.execHold tag payload s
  | .stop tag payload => Sys2Proof.Machine.execStop tag payload s
  | .setCell tag payload => Sys2Proof.Machine.execSetCell tag payload s
  | .relaxUnit tag payload => Sys2Proof.Machine.execRelaxUnit tag payload s
  | .voidUnit tag payload => Sys2Proof.Machine.execVoidUnit tag payload s
  | .enableLink tag payload => Sys2Proof.Machine.execEnableLink tag payload s
  | .resetLink tag payload => Sys2Proof.Machine.execResetLink tag payload s
  | .breakEnd link => Sys2Proof.Machine.execBreakEnd link s
  | .disableLink tag payload => Sys2Proof.Machine.execDisableLink tag payload s
  | .lockStationId tag payload => Sys2Proof.Machine.execLockStationId tag payload s
  | .testLink tag payload => Sys2Proof.Machine.execTestLink tag payload s
  | .setLimits tag payload => Sys2Proof.Machine.execSetLimits tag payload s
  | .readStation tag payload => Sys2Proof.Machine.execReadStation tag payload s
  | .ping tag payload => Sys2Proof.Machine.execPing tag payload s
  | .status tag payload => Sys2Proof.Machine.execStatus tag payload s
  | .readCondition tag payload => Sys2Proof.Machine.execReadCondition tag payload s
  | .setNotices tag payload => Sys2Proof.Machine.execSetNotices tag payload s
  | .resetCell tag payload => Sys2Proof.Machine.execResetCell tag payload s
  | .call link => Sys2Proof.Machine.execCall link s
  | .hello link number kind identity => Sys2Proof.Machine.execHello link number kind identity s
  | .stationFrameDiscard link number kind params check => Sys2Proof.Machine.execStationFrameDiscard link number kind params check s
  | .stationFrameTimeout link => Sys2Proof.Machine.execStationFrameTimeout link s
  | .stationError link number code => Sys2Proof.Machine.execStationError link number code s
  | .watchdogExpiry link => Sys2Proof.Machine.execWatchdogExpiry link s
  | .waferIn link number readState identity => Sys2Proof.Machine.execWaferIn link number readState identity s
  | .waferOut link number => Sys2Proof.Machine.execWaferOut link number s
  | .unloadWafer table => Sys2Proof.Machine.execUnloadWafer table s
  | .abortedTable table number holds => Sys2Proof.Machine.execAbortedTable table number holds s
  | .grant => Sys2Proof.Machine.execGrant s
  | .stepped link number => Sys2Proof.Machine.execStepped link number s
  | .picked link number => Sys2Proof.Machine.execPicked link number s
  | .pickFail link number => Sys2Proof.Machine.execPickFail link number s
  | .putDone link number => Sys2Proof.Machine.execPutDone link number s
  | .dropped link number => Sys2Proof.Machine.execDropped link number s
  | .abortedPk number holds => Sys2Proof.Machine.execAbortedPk number holds s
  | .purgedOnPk number => Sys2Proof.Machine.execPurgedOnPk number s
  | .settleExpiry lane => Sys2Proof.Machine.execSettleExpiry lane s
  | .take lane => Sys2Proof.Machine.execTake lane s
  | .nestPurge lane => Sys2Proof.Machine.execNestPurge lane s
  | .taken link number => Sys2Proof.Machine.execTaken link number s
  | .touched link number => Sys2Proof.Machine.execTouched link number s
  | .bonded link number dx dy rotation vision => Sys2Proof.Machine.execBonded link number dx dy rotation vision s
  | .purged link number => Sys2Proof.Machine.execPurged link number s
  | .abortedBonder lane number holds => Sys2Proof.Machine.execAbortedBonder lane number holds s
  | .idleConversion lane counts => Sys2Proof.Machine.execIdleConversion lane counts s
  | .dwellConversion lane counts => Sys2Proof.Machine.execDwellConversion lane counts s
  | .loadStrip => Sys2Proof.Machine.execLoadStrip s
  | .arrived link number stripId code pitch count xouts => Sys2Proof.Machine.execArrived link number stripId code pitch count xouts s
  | .stripDone => Sys2Proof.Machine.execStripDone s
  | .ejectStrip => Sys2Proof.Machine.execEjectStrip s
  | .ejected link number => Sys2Proof.Machine.execEjected link number s
  | .abortedIx number holds => Sys2Proof.Machine.execAbortedIx number holds s
  | .enterHeld => Sys2Proof.Machine.execEnterHeld s
  | .enterStopped => Sys2Proof.Machine.execEnterStopped s
  | .unitReassignment => Sys2Proof.Machine.execUnitReassignment s
  | .starvationExpiry lane => Sys2Proof.Machine.execStarvationExpiry lane s
  | .ageTimerExpiry => Sys2Proof.Machine.execAgeTimerExpiry s
  | .supplyFails => Sys2Proof.Machine.execSupplyFails s

end Sys2Proof.Machine
end

