-- ==== Sys2Proof/Machine/Receive.lean ====
section
/-! DEFINITION. The bytes of a whole frame read as the row they stand for (R174, R187, R197). No step reads bytes: each
row delivers a frame whole (notes/assumptions/7.md), and these functions say which bytes it comes as. -/

namespace Sys2Proof.Machine

/-- Two bytes as a word, least significant byte first (R197). -/
def word16 (lo hi : Byte) : BitVec 16 := BitVec.ofNat 16 (nat16 lo hi)

/-- The bytes of ARRIVED's x-out entries, each a row and a col. -/
def xoutPairs : List Byte → List (Byte × Byte)
  | row :: col :: rest => (row, col) :: xoutPairs rest
  | _ => []

/-- ABORTED (Table 11-8) is a row of the link's owner (R51, R84, R103, R128). -/
def abortedRow (l : Link) (number holds : Byte) : Instr :=
  match l with
  | .ta => .abortedTable .a number holds
  | .tb => .abortedTable .b number holds
  | .pk => .abortedPk number holds
  | .b1 => .abortedBonder .one number holds
  | .b2 => .abortedBonder .two number holds
  | .ix => .abortedIx number holds

/-- PURGED (Table 11-8) on PK is a row of the picker (R104), elsewhere one of the lanes (R109, R117). -/
def purgedRow (l : Link) (number : Byte) : Instr :=
  match l with
  | .pk => .purgedOnPk number
  | l => .purged l number

/-- BONDED's seven parameter bytes (Table 11-8): dx, dy, rotation and vision. -/
def bondedRow (l : Link) (number : Byte) : List Byte → Option Instr
  | [dxLo, dxHi, dyLo, dyHi, rLo, rHi, vision] =>
    some (.bonded l number (word16 dxLo dxHi) (word16 dyLo dyHi) (word16 rLo rHi) vision)
  | _ => none

/-- ARRIVED's forty parameter bytes (Table 11-8): strip-id, type code, pitch, x-out count and twelve x-out entries. -/
def arrivedRow (l : Link) (number : Byte) (p : List Byte) : Option Instr :=
  match p.drop 12 with
  | code :: pitchLo :: pitchHi :: count :: xouts =>
    if xouts.length = 24 then
      some (.arrived l number (p.take 12) code (word16 pitchLo pitchHi) count (xoutPairs xouts))
    else none
  | _ => none

/-- The row of a report of a kind and its parameter bytes (Table 11-8); none when the kind names no report or has
another length of parameters. -/
def reportRow (l : Link) (number kind : Byte) (p : List Byte) : Option Instr :=
  match kind.toNat with
  | 64 =>
    match p with
    | station :: identity => if identity.length = 8 then some (.hello l number station identity) else none
    | [] => none
  | 65 =>
    match p with
    | state :: identity => if identity.length = 12 then some (.waferIn l number state identity) else none
    | [] => none
  | 66 => if p = [] then some (.waferOut l number) else none
  | 67 => if p = [] then some (.stepped l number) else none
  | 68 => if p = [] then some (.picked l number) else none
  | 69 => if p = [] then some (.pickFail l number) else none
  | 70 => if p = [] then some (.putDone l number) else none
  | 71 => if p = [] then some (.dropped l number) else none
  | 72 => if p = [] then some (.taken l number) else none
  | 73 => if p = [] then some (.touched l number) else none
  | 74 => bondedRow l number p
  | 75 => if p = [] then some (purgedRow l number) else none
  | 76 => arrivedRow l number p
  | 77 => if p = [] then some (.ejected l number) else none
  | 78 =>
    match p with
    | [holds] => some (abortedRow l number holds)
    | _ => none
  | 79 =>
    match p with
    | [code] => some (.stationError l number code)
    | _ => none
  | _ => none

/-- The row that a whole station frame stands for: its report, or its discard when it is bad (R174). -/
def readStationFrame (l : Link) : List Byte → Option Instr
  | start :: number :: kind :: rest =>
    match rest.getLast? with
    | none => none
    | some check =>
      let p := rest.dropLast
      if start ≠ 90 then none
      else if namesReport kind = false then some (.stationFrameDiscard l number kind p check)
      else (reportRow l number kind p).map fun row =>
        if frameBad number kind p check then .stationFrameDiscard l number kind p check else row
  | _ => none

/-- The row that a command link frame stands for (Table 11-4): a length no frame may have is discarded at its second
length byte (R187); a whole frame is FRAME_RECEIVED. -/
def readFrame : List Byte → Option Instr
  | start :: lengthLo :: lengthHi :: rest =>
    let length := word16 lengthLo lengthHi
    if start ≠ 195 then none
    else if lengthBad length then some (.discardLength length)
    else
      match rest.drop length.toNat, rest.take length.toNat with
      | [checkLo, checkHi], kind :: tag :: payload => some (.frameReceived kind tag payload (word16 checkLo checkHi))
      | _, _ => none
  | _ => none

end Sys2Proof.Machine
end

