-- ==== Sys2Proof/Safety.lean ====
section
/-! DEFINITION. What statements about runs are made of: the settings that only the host and a reset write, and the ranges
the tables of the spec give the fields. -/

namespace Sys2Proof.Machine

/-! ## Settings: what no report, expiry or step of the part may write -/

/-- A lane's settings and the fault count its head has earned (Table 6-1). -/
structure LaneSettings where
  enable : Bool
  settle : Nat
  threshold : Nat
  degraded : Bool
  offsetFailures : Nat
  deriving DecidableEq, Repr

def LaneRec.settings (r : LaneRec) : LaneSettings :=
  ⟨r.enable, r.settle, r.threshold, r.degraded, r.offsetFailures⟩

/-- A monitor but for its state (Table 7-1). -/
def Monitor.figures (m : Monitor) : Monitor := { m with state := .idle }

/-- A link but for what an order moves: its number, the outstanding order, the watchdog, the test (Table 10-1). -/
def LinkRec.standing (r : LinkRec) : LinkRec :=
  { r with nextNumber := 0, outstanding := none, watchdog := none, test := 0 }

/-- The log's settings (R140). -/
structure LogSettings where
  policy : Policy
  trigger : Nat
  ageTimeout : Nat
  deriving DecidableEq, Repr

def Log.settings (l : Log) : LogSettings := ⟨l.policy, l.trigger, l.ageTimeout⟩

/-- A site as the host delivered and marked it (R8, R12). -/
structure SitePrint where
  bin : Nat
  marks : Marks
  deriving DecidableEq, Repr

def Site.print (x : Site) : SitePrint := ⟨x.bin, x.marks⟩

/-- A slot as the host loaded it (Table 1-1). -/
structure MapPrint where
  dieType : DieType
  rows : Nat
  cols : Nat
  expectedId : Option Text
  idLock : Bool
  rowOffset : Int
  colOffset : Int
  delivered : List Nat
  sites : List (List SitePrint)
  deriving DecidableEq, Repr

def Slot.print (sl : Slot) : MapPrint :=
  ⟨sl.dieType, sl.rows, sl.cols, sl.expectedId, sl.idLock, sl.rowOffset, sl.colOffset, sl.delivered,
    sl.sites.map fun row => row.map Site.print⟩

/-- What only the host's commands, the bond cycle's own counts and a reset write. -/
structure Settings where
  pending : List Instr
  powered : Bool
  pins : Straps
  maps : PerQuad MapPrint
  classes : ClassTables
  recipes : RecipeStore
  stripTypes : PerQuad (Option StripType)
  stripLock : Option TypeCode
  lanes : PerLane LaneSettings
  monitors : PerLane Monitor
  log : LogSettings
  gating : Gating
  timeout : Nat
  links : PerLink LinkRec
  limits : Limits
  queue : List Frame
  discards : Nat
  resetDue : Bool
  rate : Straps
  enables : List Bool
  deriving DecidableEq, Repr

def State.settings (s : State) : Settings :=
  { pending := s.pending, powered := s.powered, pins := s.pins
    maps := s.slots.map Slot.print
    classes := s.classes, recipes := s.recipes, stripTypes := s.stripTypes, stripLock := s.stripLock
    lanes := ⟨s.lanes.one.settings, s.lanes.two.settings⟩
    monitors := ⟨s.monitors.one.figures, s.monitors.two.figures⟩
    log := s.log.settings, gating := s.control.gating, timeout := s.control.timeout
    links := ⟨s.links.ta.standing, s.links.tb.standing, s.links.pk.standing, s.links.b1.standing,
      s.links.b2.standing, s.links.ix.standing⟩
    limits := s.limits, queue := s.host.queue, discards := s.host.discards, resetDue := s.host.resetDue
    rate := s.host.rate, enables := CondId.all.map fun c => (s.conds.get c).enable }

/-- `b` is `a` but for the standing of one link. -/
def Settings.butLink (a b : Settings) (l : Link) : Prop := ∃ v, b = { a with links := a.links.set l v }

/-! ## Who sends what -/

/-- An order of a kind and number is outstanding on an UP link. -/
def State.awaits (s : State) (l : Link) (k : OrderKind) (number : Byte) : Prop :=
  (s.links.get l).state = .up ∧ (s.links.get l).breakTimer = none ∧ (s.links.get l).outstanding = some ⟨k, number⟩

/-- The row of a kind of Table 11-1. -/
def hostRow : Nat → Option (Byte → List Byte → Instr)
  | 1 => some .mapOpen | 2 => some .mapRows | 3 => some .mapClose | 4 => some .mapDrop
  | 5 => some .mapMark | 6 => some .mapRead | 7 => some .mapSummary
  | 16 => some .setBins | 17 => some .useBank | 18 => some .setGroups | 19 => some .readClasses
  | 20 => some .stageRecipe | 21 => some .promote | 22 => some .readRecipe
  | 32 => some .mount | 33 => some .dismount | 34 => some .setWaferId | 35 => some .setOffset
  | 40 => some .setStripType | 41 => some .stripLock | 42 => some .readUnits
  | 48 => some .readTokens
  | 56 => some .setLane | 57 => some .readLane | 58 => some .restoreLane
  | 64 => some .setForce | 65 => some .readForce
  | 72 => some .setLog | 73 => some .fetchLog
  | 80 => some .run | 81 => some .hold | 82 => some .stop | 83 => some .setCell
  | 84 => some .relaxUnit | 85 => some .voidUnit
  | 96 => some .enableLink | 97 => some .resetLink | 98 => some .disableLink | 99 => some .lockStationId
  | 100 => some .testLink | 101 => some .setLimits | 102 => some .readStation
  | 112 => some .ping | 113 => some .status | 114 => some .readCondition | 115 => some .setNotices
  | 116 => some .resetCell
  | _ => none

/-- The link and order number of a report that is matched by its number (R175). -/
def numbered : Instr → Option (Link × Byte)
  | .stationError l n _ | .waferIn l n _ _ | .waferOut l n | .stepped l n | .picked l n | .pickFail l n | .putDone l n
  | .dropped l n | .taken l n | .touched l n | .bonded l n _ _ _ _ | .purged l n | .arrived l n _ _ _ _ _
  | .ejected l n => some (l, n)
  | .abortedTable k n _ => some (tableLink k, n)
  | .abortedPk n _ | .purgedOnPk n => some (.pk, n)
  | .abortedBonder k n _ => some (bonderLink k, n)
  | .abortedIx n _ => some (.ix, n)
  | _ => none

/-- A report whose delivery moves no setting: every one but TAKEN (a cycle index), TOUCHED and BONDED (a monitor, a
lane's count) and ARRIVED (the recipes). -/
def plainReport : Instr → Option Link
  | .stationError l _ _ | .waferIn l _ _ _ | .waferOut l _ | .stepped l _ | .picked l _ | .pickFail l _ | .putDone l _
  | .dropped l _ | .purged l _ | .ejected l _ | .hello l _ _ _ | .stationFrameDiscard l _ _ _ _
  | .stationFrameTimeout l | .watchdogExpiry l | .call l | .breakEnd l => some l
  | .abortedTable k _ _ => some (tableLink k)
  | .abortedPk _ _ | .purgedOnPk _ => some .pk
  | .abortedBonder k _ _ => some (bonderLink k)
  | .abortedIx _ _ => some .ix
  | _ => none

/-- A step the part makes by itself, or the expiry of a timer of no link. -/
def ownStep : Instr → Bool
  | .unloadWafer _ | .grant | .settleExpiry _ | .take _ | .nestPurge _ | .loadStrip | .stripDone | .ejectStrip
  | .enterHeld | .enterStopped | .unitReassignment | .starvationExpiry _ | .ageTimerExpiry => true
  | _ => false

/-! ## Ranges -/

/-- A bin bank: 64 entries, each a class 0 to 15 or REJECT, the last REJECT (R24). -/
def bankInRange (b : List (Option Nat)) : Prop :=
  b.length = 64 ∧ (∀ e ∈ b, ∀ k, e = some k → k ≤ 15) ∧ b[63]? = some none

/-- The class tables (R24, R28). -/
def ClassTables.inRange (c : ClassTables) : Prop :=
  bankInRange c.bank0 ∧ bankInRange c.bank1 ∧ c.groups.length = 16

/-- A lane's settings and count (Table 6-1). -/
def LaneRec.inRange (r : LaneRec) : Prop :=
  r.settle ≤ 255 ∧ 1 ≤ r.threshold ∧ r.threshold ≤ 63 ∧ r.offsetFailures ≤ 255

/-- An absent figure, or one of at most 1023 counts (Table 7-1). -/
def figureInRange (x : Option Nat) : Prop := ∀ v, x = some v → v ≤ 1023

/-- A force monitor (Table 7-1); a disabled one holds no latest sample and no fresh flag (R132). -/
def Monitor.inRange (m : Monitor) : Prop :=
  figureInRange m.latest ∧ m.tare ≤ 1023 ∧ figureInRange m.dwellMin ∧ figureInRange m.dwellMax ∧ m.count ≤ 65535 ∧
    (m.enable = false → m.latest = none ∧ m.fresh = false)

/-- The placement log: its capacity, counts and settings (R140). -/
def Log.inRange (l : Log) : Prop :=
  l.records.length ≤ Config.logCapacity ∧ l.reserved ≤ Config.logCapacity ∧ l.overwritten ≤ 65535 ∧ isTrigger l.trigger = true ∧
    1 ≤ l.ageTimeout ∧ l.ageTimeout ≤ 255

/-- A link record: its counts and settings, and a watchdog that runs exactly while an order is outstanding (Table
10-1, R177). -/
def LinkRec.inRange (r : LinkRec) : Prop :=
  r.crcCount ≤ 255 ∧ 1 ≤ r.crcThreshold ∧ r.crcThreshold ≤ 15 ∧ r.lateCount ≤ 65535 ∧ r.test ≤ 8 ∧
    r.watchdog.isSome = r.outstanding.isSome

/-- Every link record. -/
def State.linksInRange (s : State) : Prop := ∀ l, (s.links.get l).inRange

/-- What the shared operations move within its range: the link records and the log. -/
def State.tracksInRange (s : State) : Prop := s.linksInRange ∧ s.log.inRange

/-- The command link: at most four frames wait, and the discard count stops at 65,535 (R187). -/
def HostLink.inRange (h : HostLink) : Prop := h.queue.length ≤ Config.queueCapacity ∧ h.discards ≤ 65535

end Sys2Proof.Machine
end

