-- ==== Sys2Proof/Certificates/Slice0/Obligations.lean ====
section
/-! DEFINITION. The statements for the provers. -/

section Statements

open Sys2Proof Sys2Proof.Machine

/-! ## The block: steps, resets, supply -/

/-- A step with a command at the front of the queue is exec of that command with the queue's rest. -/
def Obligations.StepTakesTheFrontCommand : Prop :=
  ∀ (c : Instr) (rest : List Instr) (s : State), step { s with pending := c :: rest } = exec c { s with pending := rest }

/-- On an empty queue 0.1 ms passes: each running timer counts down, not below 1, and nothing else changes; nothing
counts without supply. The tick, its length and its floor are the model's choice (notes/assumptions/4.md, 25.md). -/
def Obligations.EmptyQueueLetsTimePass : Prop :=
  ∀ s : State, s.pending = [] →
    (s.powered = false → step s = .next s) ∧
    (s.powered = true → ∃ t, step s = .next t ∧
      (∀ n, t.lanes.get n = { s.lanes.get n with settleTimer := (s.lanes.get n).settleTimer.map fun k => if k ≤ 1 then k else k - 1 }) ∧
      (∀ n, t.control.waits.get n =
        { s.control.waits.get n with timer := (s.control.waits.get n).timer.map fun k => if k ≤ 1 then k else k - 1 }) ∧
      (∀ l, t.links.get l =
        { s.links.get l with
          watchdog := (s.links.get l).watchdog.map fun k => if k ≤ 1 then k else k - 1
          callTimer := (s.links.get l).callTimer.map fun k => if k ≤ 1 then k else k - 1
          breakTimer := (s.links.get l).breakTimer.map fun k => if k ≤ 1 then k else k - 1 }) ∧
      t = { s with
        lanes := t.lanes, links := t.links, control := { s.control with waits := t.control.waits }
        log := { s.log with ageTimer := s.log.ageTimer.map fun k => if k ≤ 1 then k else k - 1 } })

/-- What the machine is right after power-on, by the tables of every chapter (the straps are the model's choice,
notes/assumptions/8.md). -/
def Obligations.ResetGivesTheTablesValues : Prop :=
  (∀ i, State.reset.slots.get i = ⟨.empty, .q0, 0, 0, none, none, false, 0, 0, [], 0, 0, false, []⟩) ∧ State.reset.classes.active = .zero ∧
  (∀ b k, k < 64 → (State.reset.classes.bank b)[k]? = some none) ∧
  (∀ k, k < 16 → State.reset.classes.groups[k]? = some .q0) ∧
  (∀ t, State.reset.recipes.active.get t = none ∧ State.reset.recipes.staged.get t = none ∧
    State.reset.recipes.generation.get t = 0 ∧ ∀ n, (State.reset.recipes.cycle.get n).get t = 0) ∧
  (∀ k, State.reset.tables.get k = ⟨.empty, none, false, false, none, .none⟩) ∧
  (∀ n, State.reset.searchAgain.get n = false) ∧ (∀ c, State.reset.stripTypes.get c = none) ∧
  State.reset.stripLock = none ∧ State.reset.strip = ⟨.none, false, none, none, none, none, none, []⟩ ∧
  State.reset.picker = ⟨.idle, .two⟩ ∧ State.reset.tokens = [] ∧
  (∀ n, State.reset.lanes.get n = ⟨true, 10, 8, false, 0, .empty, none, .idle, none, none, none⟩) ∧
  (∀ n, State.reset.monitors.get n = ⟨true, .x1, .idle, none, false, 0, none, none, 0⟩) ∧
  State.reset.log = ⟨[], .stall, 0, 0, 0, 512, 50, none, false⟩ ∧
  State.reset.control = ⟨.stopped, none, .all, 20, ⟨⟨false, none, none, none, false⟩, ⟨false, none, none, none, false⟩⟩⟩ ∧
  (∀ l, State.reset.links.get l =
    ⟨.disabled, none, [32, 32, 32, 32, 32, 32, 32, 32], none, 0, none, none, 0, 4, 0, 0, none, none, none⟩) ∧
  State.reset.limits = ⟨20000, 20000, 500, 300, 300, 1000, 300, 1000, 5000, 5000, 500⟩ ∧
  State.reset.host.queue = [] ∧ State.reset.host.discards = 0 ∧ State.reset.host.tx = [.started 0 .power] ∧
  (∀ c, State.reset.conds.get c = ⟨none, true⟩)

/-- POWER_ON, RSTN with the supply up, and the sending of RESET-CELL's DONE reply give every block its values after
reset, with STARTED of the right cause the one record to send and the straps sampled. -/
def Obligations.EveryResetGivesTheResetValues : Prop :=
  (∀ (a b : Bool) (s : State), exec (.powerOn a b) s = .next { State.reset with
    pending := s.pending, pins := ⟨a, b⟩
    host := { State.reset.host with tx := [.started 0 .power], rate := ⟨a, b⟩ } }) ∧
  (∀ (a b : Bool) (s : State), s.powered = true → exec (.rstn a b) s = .next { State.reset with
    pending := s.pending, pins := ⟨a, b⟩
    host := { State.reset.host with tx := [.started 0 .pin], rate := ⟨a, b⟩ } }) ∧
  (∀ (tag : Byte) (rest : List TxRecord) (s : State), s.powered = true → s.host.resetDue = true →
    s.host.tx = .reply 244 tag [0] :: rest →
    exec .recordSent s = .next { State.reset with
      pending := s.pending, pins := s.pins
      host := { State.reset.host with tx := [.started 0 .command], rate := s.pins } })

/-- When the supply fails the record being sent is cut off; until power comes up again no command changes anything.
Every command gives a next state and leaves the queue of waiting commands as it was. The queue is the model's own
(notes/assumptions/1.md), and that a command answers a next state in states that no run reaches is the model's choice
(notes/assumptions/15.md). -/
def Obligations.SupplyAndTotality : Prop :=
  ((∀ s : State, s.powered = true →
     exec .supplyFails s = .next { s with powered := false, host := { s.host with tx := [] } }) ∧
   (∀ (c : Instr) (s : State), s.powered = false → (∀ a b, c ≠ .powerOn a b) → exec c s = .next s)) ∧
  (∀ (c : Instr) (s : State), ∃ t, exec c s = .next t ∧ t.pending = s.pending)

/-! ## The command link -/

/-- A frame of a wrong length, with a gap of more than 20 byte-times, with a bad check, or with the queue full is
discarded: the count goes up by one, stopping at 65,535, and LINK-DISCARD is raised with the cause and the count. -/
def Obligations.BadFramesAreDiscarded : Prop :=
  ∀ s : State, s.powered = true →
    let after (c : DiscardCause) : Host.Outcome State Fault Refusal :=
      .next (raise (.linkDiscard c (min 65535 (s.host.discards + 1)))
        { s with host := { s.host with discards := min 65535 (s.host.discards + 1) } })
    (∀ n : BitVec 16, (n.toNat < 2 ∨ 242 < n.toNat) → exec (.discardLength n) s = after .length) ∧
    (∀ cycles, 200 * 25000000 < cycles * s.host.rate.baud → exec (.discardGap cycles) s = after .gap) ∧
    (∀ kind tag p check, p.length ≤ 240 → crc16 (frameBody kind tag p) ≠ check →
      exec (.frameReceived kind tag p check) s = after .check) ∧
    (∀ kind tag p check, p.length ≤ 240 → crc16 (frameBody kind tag p) = check → 4 ≤ s.host.queue.length →
      exec (.frameReceived kind tag p check) s = after .full)

/-- A good frame joins the tail of the queue while a reply or STARTED is still to be sent. A good frame that finds
the queue empty and nothing but notices to send is taken at once, and does what the row of its kind does; a
frame of a kind outside the index does what UNKNOWN_KIND_COMMAND does. The bytes of a whole frame are read by the
layout of Table 11-4, and a bad length is discarded at its second byte. -/
def Obligations.GoodFramesAreQueuedOrTaken : Prop :=
  (∀ (kind tag : Byte) (p : List Byte) (s : State), s.powered = true → p.length ≤ 240 → s.host.queue.length < 4 →
     (s.host.replyWaits = true ∨ s.host.startedWaits = true) →
     exec (.frameReceived kind tag p (crc16 (frameBody kind tag p))) s =
       .next { s with host := { s.host with queue := s.host.queue ++ [⟨kind, tag, p⟩] } }) ∧
  (∀ (kind tag : Byte) (p : List Byte) (s : State), s.powered = true → p.length ≤ 240 → s.host.queue = [] →
     s.host.replyWaits = false → s.host.startedWaits = false →
     (∀ row, hostRow kind.toNat = some row →
       exec (.frameReceived kind tag p (crc16 (frameBody kind tag p))) s = exec (row tag p) s) ∧
     (hostRow kind.toNat = none →
       exec (.frameReceived kind tag p (crc16 (frameBody kind tag p))) s = exec (.unknownKindCommand kind tag p) s)) ∧
  (∀ (kind tag lo hi : Byte) (p : List Byte), p.length ≤ 240 →
     readFrame (195 :: u16 (p.length + 2) ++ [kind, tag] ++ p ++ [lo, hi]) =
       some (.frameReceived kind tag p (BitVec.ofNat 16 (lo.toNat + 256 * hi.toNat)))) ∧
  (∀ (lo hi : Byte) (rest : List Byte), (lo.toNat + 256 * hi.toNat < 2 ∨ 242 < lo.toNat + 256 * hi.toNat) →
     readFrame (195 :: lo :: hi :: rest) = some (.discardLength (BitVec.ofNat 16 (lo.toNat + 256 * hi.toNat))))

/-- A record that has gone out leaves the list; once neither reply nor STARTED is left, the oldest queued frame leaves the
queue and is taken as its row says, or, when its kind is outside the index, as UNKNOWN_KIND_COMMAND says. -/
def Obligations.RecordSentMovesOn : Prop :=
  ∀ (r : TxRecord) (rest : List TxRecord) (s : State), s.powered = true → s.host.tx = r :: rest →
    s.host.resetDue = false →
    (s.host.queue = [] → exec .recordSent s = .next { s with host := { s.host with tx := rest } }) ∧
    (({ s.host with tx := rest } : HostLink).replyWaits = true ∨ ({ s.host with tx := rest } : HostLink).startedWaits = true →
      exec .recordSent s = .next { s with host := { s.host with tx := rest } }) ∧
    (({ s.host with tx := rest } : HostLink).replyWaits = false → ({ s.host with tx := rest } : HostLink).startedWaits = false →
      ∀ f more row, s.host.queue = f :: more → hostRow f.kind.toNat = some row →
        exec .recordSent s = exec (row f.tag f.payload) { s with host := { s.host with tx := rest, queue := more } }) ∧
    (({ s.host with tx := rest } : HostLink).replyWaits = false → ({ s.host with tx := rest } : HostLink).startedWaits = false →
      ∀ f more, s.host.queue = f :: more → hostRow f.kind.toNat = none →
        exec .recordSent s = exec (.unknownKindCommand f.kind f.tag f.payload)
          { s with host := { s.host with tx := rest, queue := more } })

/-- SET-NOTICES writes the nine enables and no pending flag; RESET-CELL answers DONE and its reset is due when that
reply has gone out (that it acts in two steps is the model's reading, notes/assumptions/6.md). A command of a kind
outside the index is refused with UNKNOWN-KIND and changes nothing; its reply carries the kind with the reply mark up
to 126, and 254 above. -/
def Obligations.SetNoticesResetCellAndUnknownKind : Prop :=
  ((∀ (tag : Byte) (a b c d e f g h i : Bool) (s : State), s.powered = true →
     exec (.setNotices tag ([a, b, c, d, e, f, g, h, i].map flag)) s =
       .next (reply 115 tag
         (0 :: (CondId.all.map fun k => flag (s.conds.get k).enable) ++ CondId.all.map fun k => flag (s.conds.get k).detail.isSome)
         { s with conds :=
           ⟨⟨s.conds.stationFault.detail, a⟩, ⟨s.conds.cellHeld.detail, b⟩, ⟨s.conds.laneOut.detail, c⟩,
             ⟨s.conds.unitStarved.detail, d⟩, ⟨s.conds.waferExhausted.detail, e⟩, ⟨s.conds.mountDone.detail, f⟩,
             ⟨s.conds.log.detail, g⟩, ⟨s.conds.stripDone.detail, h⟩, ⟨s.conds.linkDiscard.detail, i⟩⟩ })) ∧
   (∀ (tag : Byte) (s : State), s.powered = true →
     exec (.resetCell tag []) s = .next { s with host := { s.host with
       resetDue := true, tx := s.host.tx ++ [.reply 244 tag [0]] } })) ∧
  (∀ (kind tag : Byte) (p : List Byte) (s : State), s.powered = true → hostRow kind.toNat = none →
     exec (.unknownKindCommand kind tag p) s =
       .next { s with host := { s.host with
         tx := s.host.tx ++ [.reply (if kind.toNat ≤ 126 then kind + 128 else 254) tag [1]] } })

/-- Raising a condition: it is pending with the detail given; a notice is made when it was not pending and its enable is
set, and takes the sequence; when it was pending no record is made. The notice joins the end of the records to send,
and an earlier notice of the same condition that waits behind the first record is withdrawn (that the first record is
the one being sent is the model's reading, notes/assumptions/18.md). -/
def Obligations.RaisingAConditionMakesOneNotice : Prop :=
  ∀ (d : Detail) (s : State),
    let c := s.conds.get d.cond
    let marked := s.conds.set d.cond { c with detail := some d }
    let notice : TxRecord := .notice d.cond s.host.sequence d.bytes
    let kept (r : TxRecord) : Bool := match r with
      | .notice k _ _ => decide (k ≠ d.cond)
      | .reply .. | .started .. => true
    (c.detail.isSome ∨ c.enable = false → raise d s = { s with conds := marked }) ∧
    (c.detail = none → c.enable = true → raise d s = { s with
      conds := marked
      host := { s.host with
        sequence := s.host.sequence + 1
        tx := match s.host.tx with
          | [] => [notice]
          | first :: rest => first :: rest.filter kept ++ [notice] } })

/-- PING answers with its own payload in every state and changes nothing; 240 bytes are refused with NO-ROOM. -/
def Obligations.PingEchoesItsPayload : Prop :=
  ∀ (tag : Byte) (p : List Byte) (s : State), s.powered = true →
    (p.length ≤ 239 → exec (.ping tag p) s = .next { s with host := { s.host with
      tx := s.host.tx ++ [.reply 240 tag (0 :: p)] } }) ∧
    (p.length = 240 → exec (.ping tag p) s = .next { s with host := { s.host with
      tx := s.host.tx ++ [.reply 240 tag [6]] } })

/-- STATUS, READ-UNITS, READ-TOKENS, MAP-SUMMARY, MAP-READ, READ-CLASSES and READ-RECIPE add their reply and change
nothing else. That READ-TOKENS sends the number of tokens once is the model's reading (notes/assumptions/13.md). -/
def Obligations.ReadsChangeNothing : Prop :=
  ∀ (tag : Byte) (s : State), s.powered = true →
    let done (kind : Byte) (results : List Byte) : Host.Outcome State Fault Refusal :=
      .next { s with host := { s.host with tx := s.host.tx ++ [.reply kind tag (0 :: results)] } }
    exec (.status tag []) s = done 241 s.statusResults ∧
    (∀ lo hi : Byte, lo.toNat + 256 * hi.toNat ≤ s.strip.units.length → lo.toNat + 256 * hi.toNat ≤ 320 →
      exec (.readUnits tag [lo, hi]) s = done 170 (s.strip.results (lo.toNat + 256 * hi.toNat))) ∧
    exec (.readTokens tag []) s = done 176
      ([s.picker.state.code, u8 (laneNumber s.picker.lastLane), u8 s.tokens.length] ++
        (Place.all.filterMap s.tokenAt).flatMap s.tokenBytes) ∧
    (∀ i, exec (.mapSummary tag [u8 i.number]) s = done 135 (s.summary i)) ∧
    (∀ i (row p col : Byte), (s.slots.get i).state ≠ .empty → row.toNat < (s.slots.get i).rows →
      (p = 0 ∧ 0 < (s.slots.get i).cols ∨ p = 1 ∧ col.toNat < (s.slots.get i).cols) →
      exec (.mapRead tag [u8 i.number, row, p, col]) s =
        done 134 ((s.slots.get i).readRow row.toNat (if p = 1 then col.toNat else 0))) ∧
    (∀ b, exec (.readClasses tag [u8 (bankCode b)]) s =
      done 147 ((s.classes.bank b).flatMap (fun e => match e with
        | none => [0, 0]
        | some k => [1, u8 k]) ++ [u8 (bankCode s.classes.active)] ++ s.classes.groups.map fun g => u8 g.number)) ∧
    (∀ t, exec (.readRecipe tag [u8 t.number]) s =
      done 150 (optional 18 ((s.recipes.active.get t).map Recipe.bytes) ++ [u8 (s.recipes.generation.get t).toNat] ++
        optional 18 ((s.recipes.staged.get t).map Recipe.bytes) ++
        [u8 (s.recipes.cycle.one.get t).toNat, u8 (s.recipes.cycle.two.get t).toNat]))

/-- READ-CONDITION returns the pending condition of highest priority from its start on, or NONE, with the pending flags
after the command; an event condition ceases by it, UNIT-STARVED stays pending, and for LOG the AGED cause ceases and
LEVEL, while it holds, is the detail left. -/
def Obligations.ReadConditionReturnsTheFirstPending : Prop :=
  ∀ (tag start : Byte) (s : State), s.powered = true → 1 ≤ start.toNat → start.toNat ≤ 9 →
    let flags (c : Conds) : List Byte := CondId.all.map fun k => flag (c.get k).detail.isSome
    let kept (c : Conds) (returned : List Byte) : Host.Outcome State Fault Refusal :=
      .next (reply 114 tag (0 :: returned ++ flags c) { s with conds := c })
    ((∀ k : CondId, start.toNat ≤ k.priority → (s.conds.get k).detail = none) →
      exec (.readCondition tag [start]) s = kept s.conds [0]) ∧
    (∀ (k : CondId) (d : Detail), start.toNat ≤ k.priority → (s.conds.get k).detail = some d →
      (∀ j : CondId, start.toNat ≤ j.priority → j.priority < k.priority → (s.conds.get j).detail = none) →
      (k ≠ .log → k ≠ .unitStarved → exec (.readCondition tag [start]) s =
        kept (s.conds.set k { s.conds.get k with detail := none }) (u8 k.priority :: d.bytes)) ∧
      (k = .unitStarved → exec (.readCondition tag [start]) s = kept s.conds (4 :: d.bytes)) ∧
      (k = .log →
        let c := s.conds.set .log { s.conds.get .log with
          detail := if s.log.trigger ≤ s.log.records.length then some (.log true false s.log.records.length) else none }
        exec (.readCondition tag [start]) s =
          .next (reply 114 tag (0 :: 7 :: d.bytes ++ flags c) { s with log := { s.log with aged := false }, conds := c })))

/-! ## Wafer maps -/

/-- MAP-ROWS writes whole rows over whatever a LOADING slot held there, and answers the number of delivered rows and of
PRESENT sites. A row sent stands among the delivered rows once, however often it was sent before, and a row not sent
stands there as before. -/
def Obligations.MapRowsDeliversRows : Prop :=
  ∀ (tag : Byte) (p : List Byte) (i : Quad) (a : MapRowsArgs) (s : State), s.powered = true →
    readMapRows p = some a → a.slot = i.number → (s.slots.get i).state = .loading →
    a.first + a.entries.length ≤ (s.slots.get i).rows →
    (∀ e ∈ a.entries, (e.map (·.count)).sum = (s.slots.get i).cols ∧
      ∀ r ∈ e, 1 ≤ r.count ∧ r.count ≤ 255 ∧ r.bin ≤ 63) →
    ∃ sl : Slot, exec (.mapRows tag p) s =
        .next (reply 2 tag (0 :: u8 sl.delivered.length :: u16 (sl.count .present)) { s with slots := s.slots.set i sl }) ∧
      sl = { s.slots.get i with delivered := sl.delivered, sites := sl.sites } ∧
      (∀ k, sl.delivered.count k =
        if a.first ≤ k ∧ k < a.first + a.entries.length then 1 else (s.slots.get i).delivered.count k) ∧
      (∀ k, k < a.first ∨ a.first + a.entries.length ≤ k → sl.sites[k]? = (s.slots.get i).sites[k]?) ∧
      (∀ k e, a.entries[k]? = some e → a.first + k < (s.slots.get i).sites.length →
        sl.sites[a.first + k]? = some (e.flatMap fun r => List.replicate r.count
          ⟨if r.bin = 63 then .void else .present, r.bin, ⟨false, false, false, false⟩, 0⟩))

/-- MAP-OPEN opens an EMPTY slot, and MAP-DROP empties a LOADING or READY slot that no token names. MAP-CLOSE seals
a LOADING slot when every row is delivered and the count agrees; otherwise INCOMPLETE names the lowest
undelivered row, and MISMATCH gives the count. -/
def Obligations.MapOpenCloseAndDrop : Prop :=
  ((∀ (tag rows cols : Byte) (i t : Quad) (id : Text) (p : Bool) (s : State), s.powered = true →
     (s.slots.get i).state = .empty → 1 ≤ rows.toNat → 1 ≤ cols.toNat → rows.toNat * cols.toNat ≤ 32768 →
     id.length = 12 → (p = true → isText 12 id = true) →
     exec (.mapOpen tag ([u8 i.number, u8 t.number, rows, cols, flag p] ++ id)) s =
       .next (reply 1 tag [0] { s with
       slots := s.slots.set i
         { state := .loading, dieType := t, rows := rows.toNat, cols := cols.toNat
           expectedId := if p then some id else none, waferId := none, idLock := false, rowOffset := 0, colOffset := 0
           delivered := [], floorRow := 0, disposal := 0, exhausted := false
           sites := List.replicate rows.toNat (List.replicate cols.toNat ⟨.void, 63, ⟨false, false, false, false⟩, 0⟩) } })) ∧
   (∀ (tag : Byte) (i : Quad) (s : State), s.powered = true →
     ((s.slots.get i).state = .loading ∨ (s.slots.get i).state = .ready) →
     ((∀ t ∈ s.tokens, t.slot ≠ i) → exec (.mapDrop tag [u8 i.number]) s =
       .next (reply 4 tag [0] { s with
         slots := s.slots.set i ⟨.empty, .q0, 0, 0, none, none, false, 0, 0, [], 0, 0, false, []⟩ })) ∧
     ((∃ t ∈ s.tokens, t.slot = i) → exec (.mapDrop tag [u8 i.number]) s = .next (reply 4 tag [5] s)))) ∧
  (∀ (tag lo hi : Byte) (i : Quad) (s : State), s.powered = true → (s.slots.get i).state = .loading →
     lo.toNat + 256 * hi.toNat ≤ 32768 →
     ((∀ r, r < (s.slots.get i).rows → r ∈ (s.slots.get i).delivered) →
       ((s.slots.get i).count .present = lo.toNat + 256 * hi.toNat →
         exec (.mapClose tag [u8 i.number, lo, hi]) s =
           .next (reply 3 tag (0 :: u16 ((s.slots.get i).count .present)) { s with
           slots := s.slots.set i
             { s.slots.get i with state := .ready, floorRow := 0, disposal := 0, exhausted := false } })) ∧
       ((s.slots.get i).count .present ≠ lo.toNat + 256 * hi.toNat →
         exec (.mapClose tag [u8 i.number, lo, hi]) s =
           .next (reply 3 tag (8 :: u16 ((s.slots.get i).count .present)) s))) ∧
     (∀ r, r < (s.slots.get i).rows → r ∉ (s.slots.get i).delivered → (∀ q, q < r → q ∈ (s.slots.get i).delivered) →
       exec (.mapClose tag [u8 i.number, lo, hi]) s = .next (reply 3 tag [7, u8 r] s)))

/-- MAP-MARK acts on the sites of its rectangle and on no other, by its operation, and clears the exhausted flag; on a
MOUNTED slot it is a selection change. It answers the number of sites whose marks differ after. -/
def Obligations.MapMarkMarksTheRectangle : Prop :=
  ∀ (tag r0 r1 c0 c1 opc m v : Byte) (i : Quad) (op : MarkOp) (s : State), s.powered = true →
    markOpOf opc.toNat = some op → r0.toNat ≤ r1.toNat → r1.toNat < (s.slots.get i).rows → c0.toNat ≤ c1.toNat →
    c1.toNat < (s.slots.get i).cols →
    ((s.slots.get i).state = .ready ∨ (s.slots.get i).state = .mounted ∨ (s.slots.get i).state = .unmounting) →
    ∃ (sl : Slot) (n : Nat),
      (let t := { s with slots := s.slots.set i sl }
       exec (.mapMark tag [u8 i.number, r0, r1, c0, c1, opc, m, v]) s =
          .next (reply 5 tag (0 :: u16 n) (if (s.slots.get i).state = .mounted then closeEvent s (selectionChange t) else t))) ∧
      n = ((sl.sites.zip (s.slots.get i).sites).map fun rows =>
        ((rows.1.zip rows.2).filter fun x => decide (x.1.marks ≠ x.2.marks)).length).sum ∧
      sl = { s.slots.get i with sites := sl.sites, exhausted := false } ∧
      (∀ r c, sl.site r c = ((s.slots.get i).site r c).map fun x =>
        if r0.toNat ≤ r ∧ r ≤ r1.toNat ∧ c0.toNat ≤ c ∧ c ≤ c1.toNat then
          { x with marks := op.marks (marksOf m.toNat) (marksOf v.toNat) x.marks }
        else x) ∧
      (∀ here named value : Bool, op.apply here named value =
        match op with
        | .add => here || named
        | .remove => here && !named
        | .toggle => here ^^ named
        | .assign => if named then value else here)

/-! ## Bin classes and recipes -/

/-- SET-BINS writes the entries given and no other, the active bank only at rest, and is then a selection change
that clears every exhausted flag. USE-BANK makes a bank active and SET-GROUPS writes groups; each clears every
exhausted flag and is a selection change. SET-BINS and SET-GROUPS answer how many entries differ after. A selection
change sets the search-again mark of each waiting lane. -/
def Obligations.ClassCommands : Prop :=
  (∀ (tag : Byte) (p : List Byte) (a : SetBinsArgs) (b : Bank) (e : List (Option Nat)) (s : State), s.powered = true →
     readSetBins p = some a → a.bank = bankCode b → classEntries a.entries = some e → a.first + e.length ≤ 63 →
     ∃ (bank : List (Option Nat)) (n : Nat),
       (let t := { s with classes := s.classes.setBank b bank }
        (b ≠ s.classes.active → exec (.setBins tag p) s = .next (reply 16 tag [0, u8 n] t)) ∧
        (b = s.classes.active → (s.control.cell = .stopped ∨ s.control.cell = .held) → exec (.setBins tag p) s =
           .next (reply 16 tag [0, u8 n] (closeEvent s (selectionChange (clearExhausted (fun _ => true) t))))) ∧
        (b = s.classes.active → s.control.cell ≠ .stopped → s.control.cell ≠ .held →
           exec (.setBins tag p) s = .next (reply 16 tag [4] s))) ∧
       (a.first + e.length ≤ (s.classes.bank b).length →
         n = ((bank.zip (s.classes.bank b)).filter fun x => decide (x.1 ≠ x.2)).length ∧ ∀ k, bank[k]? =
         if a.first ≤ k ∧ k < a.first + e.length then e[k - a.first]? else (s.classes.bank b)[k]?)) ∧
  (∀ (tag : Byte) (s : State), s.powered = true →
     (∀ b : Bank, exec (.useBank tag [u8 (bankCode b)]) s =
       .next (reply 17 tag [0, u8 (bankCode b)] (closeEvent s (selectionChange (clearExhausted (fun _ => true)
         { s with classes := { s.classes with active := b } }))))) ∧
     (∀ (first : Byte) (g : List Group), 1 ≤ g.length → first.toNat + g.length ≤ 16 →
       ∃ (groups : List Group) (n : Nat),
         exec (.setGroups tag (first :: u8 g.length :: g.map fun q => u8 q.number)) s =
           .next (reply 18 tag [0, u8 n] (closeEvent s (selectionChange (clearExhausted (fun _ => true)
             { s with classes := { s.classes with groups := groups } })))) ∧
         (first.toNat + g.length ≤ s.classes.groups.length →
           n = ((groups.zip s.classes.groups).filter fun x => decide (x.1 ≠ x.2)).length ∧ ∀ k, groups[k]? =
           if first.toNat ≤ k ∧ k < first.toNat + g.length then g[k - first.toNat]? else s.classes.groups[k]?))) ∧
  (∀ s : State,
    selectionChange s = { s with searchAgain :=
      ⟨s.searchAgain.one || s.control.waits.one.waiting, s.searchAgain.two || s.control.waits.two.waiting⟩ } ∧
    (clearExhausted (fun _ => true) s = { s with slots := (clearExhausted (fun _ => true) s).slots }) ∧
    ∀ i, (clearExhausted (fun _ => true) s).slots.get i = { s.slots.get i with exhausted := false })

/-- STAGE-RECIPE stages a full recipe in range, or withdraws the staged one, and touches no active recipe. -/
def Obligations.StageRecipeStagesOrWithdraws : Prop :=
  ∀ (tag : Byte) (p : List Byte) (a : StageRecipeArgs) (t : Quad) (s : State), s.powered = true →
    readStageRecipe p = some a → a.dieType = t.number →
    let staged (r : Option Recipe) : Host.Outcome State Fault Refusal :=
      .next (reply 20 tag [0, u8 (s.recipes.generation.get t).toNat, flag (s.recipes.staged.get t).isSome]
        { s with recipes := { s.recipes with staged := s.recipes.staged.set t r } })
    (a.recipePresent = 0 → exec (.stageRecipe tag p) s = staged none) ∧
    (∀ r, a.recipePresent = 1 → a.fields.checked = some r → r.windowLow ≤ r.windowHigh →
      exec (.stageRecipe tag p) s = staged (some r)) ∧
    (∀ r, a.recipePresent = 1 → a.fields.checked = some r → r.windowHigh < r.windowLow →
      exec (.stageRecipe tag p) s = .next (reply 20 tag [3] s))

/-- PROMOTE, at rest with no strip, makes every staged recipe active, its generation one more, its two cycle indexes 0. -/
def Obligations.PromoteMakesStagedRecipesActive : Prop :=
  ∀ (tag : Byte) (s : State), s.powered = true →
    ((s.control.cell = .stopped ∨ s.control.cell = .held) → s.strip.state = .none →
      ∃ u : State, exec (.promote tag []) s = .next (reply 21 tag (0 ::
          [Quad.q0, .q1, .q2, .q3].flatMap fun t => [flag (s.recipes.staged.get t).isSome, u8 (u.recipes.generation.get t).toNat])
          (closeEvent s u)) ∧
        (∀ t, s.recipes.staged.get t = none → u.recipes.active.get t = s.recipes.active.get t ∧
          u.recipes.generation.get t = s.recipes.generation.get t ∧
          ∀ n, (u.recipes.cycle.get n).get t = (s.recipes.cycle.get n).get t) ∧
        (∀ t r, s.recipes.staged.get t = some r → u.recipes.active.get t = some r ∧
          u.recipes.generation.get t = s.recipes.generation.get t + 1 ∧
          ∀ n, (u.recipes.cycle.get n).get t = 0) ∧
        (∀ t, u.recipes.staged.get t = none) ∧
        (∀ i, u.slots.get i = { s.slots.get i with
          exhausted := (s.slots.get i).exhausted && (s.recipes.staged.get (s.slots.get i).dieType).isNone }) ∧
        ((∀ t, s.recipes.staged.get t = none) → u.searchAgain = s.searchAgain) ∧
        (∀ t r, s.recipes.staged.get t = some r → ∀ n, u.searchAgain.get n =
          (s.searchAgain.get n || (s.control.waits.get n).waiting)) ∧
        u = { s with recipes := u.recipes, slots := u.slots, searchAgain := u.searchAgain }) ∧
    ((s.control.cell = .running ∨ s.control.cell = .holding ∨ s.control.cell = .stopping ∨ s.strip.state ≠ .none) →
      exec (.promote tag []) s = .next (reply 21 tag [4] s))

/-- The cycle indexes a fine value gives an extra quantum are those of its components by Table 2-2; over the 32 indexes they
number the fine value; the quanta are the base plus the extra one, if any. -/
def Obligations.FineValueGivesItsExtraQuanta : Prop :=
  (∀ f i : Fin 32, extraQuantum f i = true ↔
    (f.val.testBit 4 = true ∧ i.val ∈ [1, 3, 5, 7, 9, 11, 13, 15, 17, 19, 21, 23, 25, 27, 29, 31]) ∨
    (f.val.testBit 3 = true ∧ i.val ∈ [2, 6, 10, 14, 18, 22, 26, 30]) ∨
    (f.val.testBit 2 = true ∧ i.val ∈ [4, 12, 20, 28]) ∨ (f.val.testBit 1 = true ∧ i.val ∈ [8, 24]) ∨
    (f.val.testBit 0 = true ∧ i.val ∈ [16])) ∧
  (∀ f : Fin 32, ((List.range 32).filter (extraQuantum f)).length = f) ∧
  (∀ (r : Recipe) (i : BitVec 5), r.quanta i = r.base + if extraQuantum r.fine i.toNat then 1 else 0)

/-! ## Wafer tables -/

/-- MOUNT binds a READY slot to an EMPTY table whose link is UP, when no other slot of its die type is mounted or
being mounted, and sends LOAD-WAFER. DISMOUNT makes the slot UNMOUNTING and the unload wanted; UNLOAD-WAFER goes
out once no picker token holds a RESERVED site of the slot and the link is UP and free. -/
def Obligations.MountDismountAndUnload : Prop :=
  (∀ (tag : Byte) (i : Quad) (k : Table) (s : State), s.powered = true → s.control.cell ≠ .stopping →
     (s.slots.get i).state = .ready → (s.tables.get k).state = .empty → (s.links.get (tableLink k)).state = .up →
     (∀ j, j ≠ i → (s.slots.get j).dieType = (s.slots.get i).dieType →
       (s.slots.get j).state ≠ .mounted ∧ (s.slots.get j).state ≠ .mounting) →
     exec (.mount tag [u8 i.number, u8 (tableCode k)]) s =
       .next (reply 32 tag [0] (sendOrder (tableLink k) .loadWafer [] { s with
         slots := s.slots.set i { s.slots.get i with state := .mounting }
         tables := s.tables.set k { s.tables.get k with state := .loading, slot := some i, ending := none, readId := .none } }))) ∧
  ((∀ (tag : Byte) (i : Quad) (k : Table) (s : State), s.powered = true → s.control.cell ≠ .stopping →
     (s.tables.get k).state = .occupied → (s.tables.get k).slot = some i → (s.slots.get i).state = .mounted →
     exec (.dismount tag [u8 (tableCode k)]) s =
       .next (reply 33 tag [0] (closeEvent s { s with
         slots := s.slots.set i { s.slots.get i with state := .unmounting }
         tables := s.tables.set k { s.tables.get k with unloadWanted := true } }))) ∧
   (∀ (k : Table) (s : State), s.powered = true → (s.tables.get k).unloadWanted = true →
     (s.links.get (tableLink k)).state = .up → (s.links.get (tableLink k)).outstanding = none →
     ((∀ t, s.tokenAt .picker = some t → (s.tables.get k).slot ≠ some t.slot ∨ s.siteState t ≠ some .reserved) →
       exec (.unloadWafer k) s = .next (sendOrder (tableLink k) .unloadWafer [] { s with
         tables := s.tables.set k { s.tables.get k with state := .unloading, unloadWanted := false, ending := some .dismounted } })) ∧
     (∀ t, s.tokenAt .picker = some t → (s.tables.get k).slot = some t.slot → s.siteState t = some .reserved →
       exec (.unloadWafer k) s = .next s)))

/-- SET-WAFER-ID and SET-OFFSET write a slot's identity fields and its offset, and nothing else, in the slot states that
take them; the STEP of a grant carries the site's row and column with the offsets added. -/
def Obligations.SlotIdentityAndOffset : Prop :=
  (∀ (tag : Byte) (i : Quad) (id : Text) (p lock : Bool) (s : State), s.powered = true → id.length = 12 →
    (p = true → isText 12 id = true) → ((s.slots.get i).state = .loading ∨ (s.slots.get i).state = .ready) →
    exec (.setWaferId tag (u8 i.number :: flag p :: id ++ [flag lock])) s =
      .next (reply 34 tag [0] { s with
      slots := s.slots.set i
        { s.slots.get i with expectedId := if p then some id else none, idLock := lock } })) ∧
  (∀ (tag : Byte) (i : Quad) (id : Text) (p lock : Bool) (s : State), s.powered = true → id.length = 12 →
    ((s.slots.get i).state ≠ .loading → (s.slots.get i).state ≠ .ready →
      exec (.setWaferId tag (u8 i.number :: flag p :: id ++ [flag lock])) s = .next (reply 34 tag [4] s)) ∧
    (((s.slots.get i).state = .loading ∨ (s.slots.get i).state = .ready) → p = true → isText 12 id = false →
      exec (.setWaferId tag (u8 i.number :: flag p :: id ++ [flag lock])) s = .next (reply 34 tag [3] s))) ∧
  (∀ (tag r c : Byte) (i : Quad) (s : State), s.powered = true → (s.slots.get i).state ≠ .empty →
    -15 ≤ r.toInt → r.toInt ≤ 15 → -15 ≤ c.toInt → c.toInt ≤ 15 →
    exec (.setOffset tag [u8 i.number, r, c]) s =
      .next (reply 35 tag [0] { s with
      slots := s.slots.set i
        { s.slots.get i with rowOffset := r.toInt, colOffset := c.toInt } })) ∧
  (∀ (tag r c : Byte) (i : Quad) (s : State), s.powered = true →
    ((s.slots.get i).state = .empty → exec (.setOffset tag [u8 i.number, r, c]) s = .next (reply 35 tag [4] s)) ∧
    ((s.slots.get i).state ≠ .empty → (r.toInt < -15 ∨ 15 < r.toInt ∨ c.toInt < -15 ∨ 15 < c.toInt) →
      exec (.setOffset tag [u8 i.number, r, c]) s = .next (reply 35 tag [3] s))) ∧
  (∀ (n : Lane) (d : Dest) (t : DieType) (u : StripUnit) (i : SlotId) (r c : Nat) (x : Site) (k : Nat) (g : Group) (m : Table)
    (s : State), s.tableOfSlot i = some m →
    let link := s.links.get (tableLink m)
    let params := i16 (r + (s.slots.get i).rowOffset) ++ i16 (c + (s.slots.get i).colOffset)
    let check := crc8 (link.nextNumber :: 4 :: params)
    (createToken n d t u i r c x k g s).wire = s.wire ++ [.frame (tableLink m) link.nextNumber 4 params
      (if link.test = 1 then ~~~check else check)])

/-- WAFER-IN decides the mount from the expected wafer-id, the lock and the identity read: it mounts the slot, or sends
the wafer out with ending MISMATCH. -/
def Obligations.WaferInDecidesTheMount : Prop :=
  (∀ (sl : Slot) (id e : Text),
    (sl.expectedId = none → sl.identify (.read id) = some (some id) ∧ sl.identify .unread = some none) ∧
    (sl.expectedId = some e → sl.idLock = true → sl.identify (.read id) = some (some e) ∧ sl.identify .unread = some (some e)) ∧
    (sl.expectedId = some e → sl.idLock = false →
      sl.identify (.read e) = some (some e) ∧ (id ≠ e → sl.identify (.read id) = none) ∧ sl.identify .unread = none)) ∧
  (∀ (k : Table) (n : Byte) (state : Byte) (id : Text) (read : ReadId) (i : Quad) (s : State), s.powered = true →
    s.awaits (tableLink k) .loadWafer n → (s.tables.get k).slot = some i → readIdOf state id = some read →
    (∀ w, (s.slots.get i).identify read = some w → exec (.waferIn (tableLink k) n state id) s =
      .next (closeEvent s (selectionChange (raise (.mountDone k (some i) .mounted read) { endOrder (tableLink k) s with
        slots := s.slots.set i { s.slots.get i with state := .mounted, waferId := w }
        tables := s.tables.set k { s.tables.get k with state := .occupied, readId := read } })))) ∧
    ((s.slots.get i).identify read = none → exec (.waferIn (tableLink k) n state id) s =
      .next (closeEvent s (sendOrder (tableLink k) .unloadWafer [] { endOrder (tableLink k) s with
        tables := s.tables.set k { s.tables.get k with state := .unloading, readId := read, ending := some .mismatch } }))))

/-- WAFER-OUT ends an unload with the table's ending; ABORTED on a table link sends the wafer out or ends the step, with
the picker's token or, after a PK fault, with none. -/
def Obligations.WaferOutAndAborted : Prop :=
  (∀ (k : Table) (n : Byte) (i : Quad) (s : State), s.powered = true → s.awaits (tableLink k) .unloadWafer n →
    (s.tables.get k).slot = some i →
    ∃ out : MountOutcome, (out = match (s.tables.get k).ending with
        | some .mismatch => .mismatch
        | some .aborted => .aborted
        | _ => .dismounted) ∧
      exec (.waferOut (tableLink k) n) s =
        .next (closeEvent s (raise (.mountDone k (some i) out (s.tables.get k).readId) { endOrder (tableLink k) s with
          slots := s.slots.set i { s.slots.get i with state := .ready }
          tables := s.tables.set k { s.tables.get k with state := .empty, slot := none, ending := none } }))) ∧
  (∀ (k : Table) (n holds : Byte) (s : State), s.powered = true → s.awaits (tableLink k) .abort n → holds.toNat ≤ 1 →
    ((s.tables.get k).state = .loading → exec (.abortedTable k n holds) s =
      .next (closeEvent s (sendOrder (tableLink k) .unloadWafer [] { endOrder (tableLink k) s with
        tables := s.tables.set k { s.tables.get k with state := .unloading, ending := some .aborted } }))) ∧
    ((s.tables.get k).state = .unloading → exec (.abortedTable k n holds) s =
      .next (closeEvent s (sendOrder (tableLink k) .unloadWafer [] (endOrder (tableLink k) s)))) ∧
    ((s.tables.get k).state = .occupied → s.picker.state = .stepping → ∀ t, s.tokenAt .picker = some t →
      exec (.abortedTable k n holds) s =
        .next (closeEvent s (setPicker .idle (releaseToken t (endOrder (tableLink k) s))))) ∧
    ((s.tables.get k).state = .occupied → s.picker.state = .stepping → s.tokenAt .picker = none →
      exec (.abortedTable k n holds) s =
        .next (closeEvent s { endOrder (tableLink k) s with picker := { s.picker with state := .idle } })))

/-- What an order does when it is sent: it takes the link's number, is outstanding, starts the watchdog with its kind's
limit, moves the test countdown, and goes out with its CRC-8, inverted when the countdown stood at 1. An order that ends
leaves none outstanding and the watchdog stopped. -/
def Obligations.SendingAnOrder : Prop :=
  ∀ (l : Link) (k : OrderKind) (p : List Byte) (s : State),
    (sendOrder l k p s).links.get l = { s.links.get l with
      nextNumber := (s.links.get l).nextNumber + 1, outstanding := some ⟨k, (s.links.get l).nextNumber⟩
      watchdog := some (10 * s.limits.get k), test := (s.links.get l).test - 1 } ∧
    (sendOrder l k p s).wire = s.wire ++ [.frame l (s.links.get l).nextNumber k.code p
      (if (s.links.get l).test = 1 then ~~~ crc8 ((s.links.get l).nextNumber :: k.code :: p)
        else crc8 ((s.links.get l).nextNumber :: k.code :: p))] ∧
    (∀ m, m ≠ l → (sendOrder l k p s).links.get m = s.links.get m) ∧
    sendOrder l k p s = { s with links := (sendOrder l k p s).links, wire := (sendOrder l k p s).wire } ∧
    endOrder l s = { s with links := s.links.set l { s.links.get l with outstanding := none, watchdog := none } }

/-! ## Strips and units -/

/-- SET-STRIP-TYPE loads or empties a place at rest, and STRIP-LOCK sets or clears the lock. -/
def Obligations.StripTypesAndLock : Prop :=
  (∀ (tag : Byte) (p : List Byte) (a : SetStripTypeArgs) (c : Quad) (s : State), s.powered = true →
    readSetStripType p = some a → a.code = c.number →
    let loaded (t : Option StripType) : Host.Outcome State Fault Refusal :=
      .next (reply 40 tag [0, flag (s.stripTypes.get c).isSome] { s with stripTypes := s.stripTypes.set c t })
    ((s.control.cell = .stopped ∨ s.control.cell = .held) →
      (a.typePresent = 0 → exec (.setStripType tag p) s = loaded none) ∧
      (∀ t, a.typePresent = 1 → a.checked = some t → stacksBelow 1 t.positions = true →
        exec (.setStripType tag p) s = loaded (some t))) ∧
    (s.control.cell ≠ .stopped → s.control.cell ≠ .held → exec (.setStripType tag p) s = .next (reply 40 tag [4] s))) ∧
  (∀ (tag : Byte) (v : Byte) (s : State), s.powered = true →
    (∀ c : Quad, exec (.stripLock tag [1, u8 c.number]) s =
      .next (reply 41 tag (0 :: optional 1 (s.stripLock.map fun c => [u8 c.number])) { s with stripLock := some c })) ∧
    exec (.stripLock tag [0, v]) s =
      .next (reply 41 tag (0 :: optional 1 (s.stripLock.map fun c => [u8 c.number])) { s with stripLock := none }))

/-- ARRIVED makes the strip ACTIVE: the type by the lock or the report, then the pitch, the promotion, the recipes. The
unit table has one unit for each place of the layout's grid in global serpentine order (columns ascending, rows
ascending in an even column and descending in an odd one), its lane by the split column, SKIPPED when it is named in
the x-out list or the verdict refuses the strip and OPEN otherwise, no group, not relaxed, every position EMPTY. -/
def Obligations.ArrivedChecksTheStrip : Prop :=
  (∀ (n : Byte) (id : Text) (code : Byte) (pitch : BitVec 16) (count : Byte) (xouts : List (Byte × Byte)) (s : State),
    s.powered = true → s.awaits .ix .loadStrip n → isText 12 id = true → count.toNat ≤ 12 →
    ∃ (c : Nat) (layout : Option StripType) (v : Verdict) (units : List StripUnit),
      exec (.arrived .ix n id code pitch count xouts) s = .next (closeEvent s { promote (endOrder .ix s) with
        strip := ⟨.active, false, some id, some c, layout, some pitch.toNat, some v, units⟩ }) ∧
      (s.stripLock = none → c = code.toNat) ∧ (∀ q : Quad, s.stripLock = some q → c = q.number) ∧
      (∀ q : Quad, c = q.number → layout = s.stripTypes.get q) ∧ (3 < c → layout = none) ∧
      v = arrivalVerdict layout pitch.toNat (promote (endOrder .ix s)).recipes ∧
      (layout = none → units = []) ∧
      (∀ t, layout = some t → units.length = t.rows * t.cols ∧ ∀ k, k < t.rows * t.cols →
        let col := k / t.rows
        let row := if col % 2 = 0 then k % t.rows else t.rows - 1 - k % t.rows
        units[k]? = some {
          index := k, row := row, col := col, lane := if col < t.split then .one else .two
          state := if v ≠ .accepted ∨ ∃ x ∈ xouts.take count.toNat, x.1.toNat = row ∧ x.2.toNat = col then .skipped else .opened
          group := none, relaxed := false
          positions := t.positions.map fun p => ⟨p.dieType, p.x, p.y, p.stackOn, .empty⟩ })) ∧
  (∀ (t : StripType) (measured : Nat) (r : RecipeStore),
    arrivalVerdict none measured r = .type ∧
    (t.pitch + t.tolerance < measured ∨ measured + t.tolerance < t.pitch → arrivalVerdict (some t) measured r = .pitch) ∧
    (measured ≤ t.pitch + t.tolerance → t.pitch ≤ measured + t.tolerance →
      ((∃ p ∈ t.positions, r.active.get p.dieType = none) → arrivalVerdict (some t) measured r = .recipe) ∧
      ((∀ p ∈ t.positions, r.active.get p.dieType ≠ none) → arrivalVerdict (some t) measured r = .accepted)))

/-- LOAD_STRIP and EJECT_STRIP take their step when their conditions hold, and change nothing outside RUNNING;
STRIP_DONE takes its step outside RUNNING, and changes nothing while a token exists. EJECTED empties the strip record;
ABORTED on IX ends the strip order as a fault would, whatever its holds byte (that a byte of 2 or more is taken too is
the model's reading, notes/assumptions/19.md). STRIP_DONE in a RUNNING cell is stated with the removal of a token
(PickCycle). -/
def Obligations.StripOrders : Prop :=
  (∀ s : State, s.powered = true →
     (s.strip.state = .none → s.control.cell = .running → s.links.ix.state = .up → s.links.ix.outstanding = none →
       exec .loadStrip s = .next (sendOrder .ix .loadStrip [] { s with strip := { s.strip with state := .loading } })) ∧
     (s.strip.state = .active → s.strip.done = true → s.control.cell = .running → s.links.ix.state = .up →
       s.links.ix.outstanding = none →
       exec .ejectStrip s = .next (sendOrder .ix .ejectStrip [] { s with strip := { s.strip with state := .ejecting } })) ∧
     (s.strip.state = .active → s.strip.done = false → s.tokens = [] → (∀ u ∈ s.strip.units, u.resolved = true) →
       s.control.cell ≠ .running →
       exec .stripDone s = .next (raise
         (.stripDone s.strip.stripId s.strip.verdict (s.strip.countUnits .complete) (s.strip.countUnits .flawed)
           (s.strip.countUnits .skipped) (s.strip.countUnits .voided)) { s with strip := { s.strip with done := true } })) ∧
     (s.control.cell ≠ .running → exec .loadStrip s = .next s ∧ exec .ejectStrip s = .next s) ∧
     (s.tokens ≠ [] → exec .stripDone s = .next s)) ∧
  (∀ (n : Byte) (s : State), s.powered = true →
     (s.awaits .ix .ejectStrip n → exec (.ejected .ix n) s =
       .next (closeEvent s { endOrder .ix s with strip := ⟨.none, false, none, none, none, none, none, []⟩ })) ∧
     (∀ holds, s.awaits .ix .abort n →
       (s.strip.state = .loading → exec (.abortedIx n holds) s =
         .next (closeEvent s { endOrder .ix s with strip := { s.strip with state := .none } })) ∧
       (s.strip.state = .ejecting → exec (.abortedIx n holds) s =
         .next (closeEvent s { endOrder .ix s with strip := { s.strip with state := .active, done := true } }))))

/-- The search looks in the MOUNTED slot of the die type on a table whose FAULTED flag is clear. A site it finds is the
first eligible one in serpentine order from the floor row on: PRESENT, of a class of the recipe's acceptance set, its
marks allowed by the filter, and of the wanted group. UNMOUNTED says that there is no such slot, NO-DIE that no site of
the walk is base-eligible, and GROUP that one is and none is of the wanted group. -/
def Obligations.SearchFindsAnEligibleSite : Prop :=
  ∀ (t : DieType) (wanted : Option Group) (s : State),
    let searched (i : SlotId) : Prop := (s.slots.get i).state = .mounted ∧ (s.slots.get i).dieType = t ∧
      ∃ m, (s.tables.get m).slot = some i ∧ (s.tables.get m).faulted = false
    let onWalk (i : SlotId) (r c : Nat) (x : Site) : Prop := (s.slots.get i).floorRow ≤ r ∧ (s.slots.get i).site r c = some x
    let base (x : Site) : Prop := x.state = .present ∧ ∃ k p, s.classes.classOf x.bin = some k ∧
      s.recipes.active.get t = some p ∧ p.acceptance.getLsbD k = true ∧ p.filter.allows x.marks = true
    let inGroup (x : Site) : Prop := ∀ w, wanted = some w → ∃ k, s.classes.classOf x.bin = some k ∧ s.classes.groupOf k = some w
    let before (r' c' r c : Nat) : Prop := r' < r ∨ r' = r ∧ if r % 2 = 0 then c' < c else c < c'
    (∀ i r c x k g, search t wanted s = .found i r c x k g →
      (s.slots.get i).state = .mounted ∧ (s.slots.get i).dieType = t ∧ (s.slots.get i).site r c = some x ∧
      (s.slots.get i).floorRow ≤ r ∧ x.state = .present ∧ s.classes.classOf x.bin = some k ∧
      (∃ p, s.recipes.active.get t = some p ∧ p.acceptance.getLsbD k = true ∧ p.filter.allows x.marks = true) ∧
      (∀ w, wanted = some w → s.classes.groupOf k = some w) ∧ (∀ h, s.classes.groupOf k = some h → g = h) ∧
      searched i ∧
      ∀ r' c' y, onWalk i r' c' y → before r' c' r c → ¬(base y ∧ inGroup y)) ∧
    (search t wanted s = .unmounted ↔ ∀ i, ¬searched i) ∧
    (∀ i, search t wanted s = .noDie i → searched i ∧ ∀ r c x, onWalk i r c x → ¬base x) ∧
    (search t wanted s = .groupOnly → ∃ i, searched i ∧ (∃ r c x, onWalk i r c x ∧ base x) ∧
      ∀ r c x, onWalk i r c x → base x → ¬inGroup x)

/-! ## The picker -/

/-- GRANT: with the picker IDLE and one lane requesting, a search that finds a site creates that lane's token with its
reservation, and STEP goes out; with no room in the log under STALL nothing happens; a search that fails makes the lane
wait (what entering waiting does is stated in ControlSteps). With both lanes requesting, the lane whose collet alone is
IDLE goes first, else the one not granted last; when its grant fails at its search, the other lane is taken through a
grant of its own. A lane is usable while it is enabled, not DEGRADED and its link UP. It requests while the cell is
RUNNING, it is usable, its nest is EMPTY, it has a next position, and it does not wait or its search-again mark is set.
Its next position is the first one that may be filled, EMPTY and on no base or a PLACED one, of its working units: the
first unresolved unit of its order, and the second when the first has no EMPTY position left. -/
def Obligations.GrantCreatesAToken : Prop :=
  (∀ (n : Lane) (d : Dest) (u : StripUnit) (p : Position) (s : State), s.powered = true → s.picker.state = .idle →
    s.requests n = true → s.requests (otherLane n) = false → s.strip.nextPosition n = some d →
    s.unit d.unit = some u → u.position d.pos = some p →
    let mark := { s with searchAgain := s.searchAgain.set n false }
    let wanted := if s.strip.matching u then u.group else none
    (s.log.policy = .stall → 1024 ≤ s.log.records.length + s.log.reserved → exec .grant s = .next s) ∧
    ((s.log.policy = .overwrite ∨ s.log.records.length + s.log.reserved < 1024) →
      (∀ i r c x k g, search p.dieType wanted mark = .found i r c x k g →
        ∃ t, exec .grant s = .next t ∧ t = createToken n d p.dieType u i r c x k g mark ∧
          t.picker = ⟨.stepping, n⟩ ∧
          t.tokens = s.tokens ++ [⟨i, r, c, x.bin, k, g, p.dieType, s.recipes.generation.get p.dieType, n, some d, .picker,
            decide (s.log.policy = .stall)⟩] ∧
          t.log.reserved = s.log.reserved + (if s.log.policy = .stall then 1 else 0) ∧
          (t.slots.get i).site r c = some { x with state := .reserved, attempts := 0 } ∧
          (∀ m, s.tableOfSlot i = some m → (t.links.get (tableLink m)).outstanding =
            some ⟨.step, (s.links.get (tableLink m)).nextNumber⟩) ∧
          (∀ m, s.tableOfSlot i = some m →
            let link := s.links.get (tableLink m)
            let params := i16 (r + (s.slots.get i).rowOffset) ++ i16 (c + (s.slots.get i).colOffset)
            let check := crc8 (link.nextNumber :: 4 :: params)
            t.wire = s.wire ++ [.frame (tableLink m) link.nextNumber 4 params (if link.test = 1 then ~~~check else check)]) ∧
          (t.slots.get i).exhausted = false ∧ (s.slots.get i).floorRow ≤ (t.slots.get i).floorRow ∧
          (∀ q col y, (s.slots.get i).floorRow ≤ q → q < (t.slots.get i).floorRow → (t.slots.get i).site q col = some y →
            y.state ≠ .present) ∧
          ((t.slots.get i).floorRow < (t.slots.get i).sites.length →
            ∃ col y, (t.slots.get i).site (t.slots.get i).floorRow col = some y ∧ y.state = .present) ∧
          t.unit d.unit = some { u with
            positions := u.positions.modify (d.pos - 1) fun q => { q with state := .allocated }
            state := if u.state = .opened then .assembling else u.state
            group := if s.strip.matching u = true ∧ u.group = none then some g else u.group } ∧
          (∀ j, j ≠ d.unit → t.unit j = s.unit j) ∧
          (t.control.waits.get n).waiting = false) ∧
      (search p.dieType wanted mark = .unmounted → exec .grant s = .next (enterWait n .unmounted mark)) ∧
      (search p.dieType wanted mark = .groupOnly → exec .grant s = .next (enterWait n .group mark)) ∧
      (∀ i, search p.dieType wanted mark = .noDie i → exec .grant s = .next (enterWait n .noDie
        (if (s.slots.get i).exhausted then mark
          else raise (.waferExhausted i p.dieType)
            { mark with slots := s.slots.set i { s.slots.get i with exhausted := true } }))))) ∧
  (∀ (n : Lane) (d : Dest) (u : StripUnit) (p : Position) (s : State), s.strip.nextPosition n = some d →
    s.unit d.unit = some u → u.position d.pos = some p →
    let mark := { s with searchAgain := s.searchAgain.set n false }
    let wanted := if s.strip.matching u then u.group else none
    (s.log.policy = .stall → 1024 ≤ s.log.records.length + s.log.reserved → grantLane n s = .noRoom) ∧
    ((s.log.policy = .overwrite ∨ s.log.records.length + s.log.reserved < 1024) →
      (∀ i r c x k g, search p.dieType wanted mark = .found i r c x k g →
        grantLane n s = .created (createToken n d p.dieType u i r c x k g mark)) ∧
      (search p.dieType wanted mark = .unmounted → grantLane n s = .failed (enterWait n .unmounted mark)) ∧
      (search p.dieType wanted mark = .groupOnly → grantLane n s = .failed (enterWait n .group mark)) ∧
      (∀ i, search p.dieType wanted mark = .noDie i → grantLane n s = .failed (enterWait n .noDie
        (if (s.slots.get i).exhausted then mark
          else raise (.waferExhausted i p.dieType)
            { mark with slots := s.slots.set i { s.slots.get i with exhausted := true } }))))) ∧
  (∀ (n : Lane) (s : State), s.powered = true → s.picker.state = .idle → s.requests .one = true → s.requests .two = true →
    ((s.lanes.get n).collet = .idle ∧ (s.lanes.get (otherLane n)).collet ≠ .idle ∨
      ((s.lanes.get n).collet = .idle ↔ (s.lanes.get (otherLane n)).collet = .idle) ∧ n = otherLane s.picker.lastLane) →
    (grantLane n s = .noRoom → exec .grant s = .next s) ∧
    (∀ t, grantLane n s = .created t → exec .grant s = .next t) ∧
    (∀ t, grantLane n s = .failed t → t.requests (otherLane n) = true ∧
      (grantLane (otherLane n) t = .noRoom → exec .grant s = .next t) ∧
      (∀ v, grantLane (otherLane n) t = .created v ∨ grantLane (otherLane n) t = .failed v → exec .grant s = .next v))) ∧
  (∀ (n : Lane) (s : State),
    (s.usable n = true ↔ (s.lanes.get n).enable = true ∧ (s.lanes.get n).degraded = false ∧
      (s.links.get (bonderLink n)).state = .up) ∧
    (s.requests n = true ↔ s.control.cell = .running ∧ s.usable n = true ∧ (s.lanes.get n).nest = .empty ∧
      s.strip.nextPosition n ≠ none ∧ ((s.control.waits.get n).waiting = false ∨ s.searchAgain.get n = true))) ∧
  (∀ (n : Lane) (t : Strip),
    let final (p : Position) : Prop := p.state = .placed ∨ p.state = .suspect ∨ p.state = .uncertain ∨ p.state = .abandoned
    let resolved (u : StripUnit) : Prop := u.state = .skipped ∨ u.state = .voided ∨ ∀ p ∈ u.positions, final p
    let fillable (u : StripUnit) (k : Nat) : Prop := ∃ p, u.position k = some p ∧ p.state = .empty ∧
      ∀ b, p.stackOn = some b → ∃ q, u.position b = some q ∧ q.state = .placed
    let next (working : List StripUnit) : Prop :=
      (∀ d, t.nextPosition n = some d → ∃ before u after, working = before ++ u :: after ∧ u.index = d.unit ∧
        fillable u d.pos ∧ (∀ k, k < d.pos → ¬fillable u k) ∧ ∀ v ∈ before, ∀ k, ¬fillable v k) ∧
      (t.nextPosition n = none → ∀ u ∈ working, ∀ k, ¬fillable u k)
    (∀ u : StripUnit, u.resolved = true ↔ resolved u) ∧
    ((∀ u ∈ t.units, u.lane = n → resolved u) → t.nextPosition n = none) ∧
    (∀ before u rest, t.units = before ++ u :: rest → u.lane = n → ¬resolved u → (∀ v ∈ before, v.lane = n → resolved v) →
      ((∃ p ∈ u.positions, p.state = .empty) → next [u]) ∧
      ((∀ v ∈ rest, v.lane = n → resolved v) → next [u]) ∧
      ((∀ p ∈ u.positions, p.state ≠ .empty) → ∀ between v after, rest = between ++ v :: after → v.lane = n → ¬resolved v →
        (∀ w ∈ between, w.lane = n → resolved w) → next [u, v])))

/-- STEPPED sends PICK for the picker's token, and makes a picker whose token a PK fault took IDLE; PICKED makes the site TAKEN and the nest RECEIVING, and sends PUT.
PICK-FAIL retries while the attempts do not exceed the recipe's limit, and gives the site up as MISSED after. What
releasing a token, giving its site up and removing it do: the site PRESENT (the floor row lowered to it) or MISSED with
attempts 0, the reservation returned, the position settled as EMPTY (BondedSettlesTheDie), the token gone; the strip is
then done when every unit is resolved and no token is left, and in a RUNNING cell is ejected at once. -/
def Obligations.PickCycle : Prop :=
  ((∀ (k : Table) (n : Byte) (t : Token) (s : State), s.powered = true → s.awaits (tableLink k) .step n →
     s.picker.state = .stepping → s.tokenAt .picker = some t →
     exec (.stepped (tableLink k) n) s = .next (closeEvent s (sendOrder .pk .pick [u8 (tableCode k)]
       { endOrder (tableLink k) s with picker := { s.picker with state := .picking } }))) ∧
   (∀ (k : Table) (n : Byte) (s : State), s.powered = true → s.awaits (tableLink k) .step n →
     s.picker.state = .stepping → s.tokenAt .picker = none →
     exec (.stepped (tableLink k) n) s =
       .next (closeEvent s { endOrder (tableLink k) s with picker := { s.picker with state := .idle } })) ∧
   (∀ (n : Byte) (t : Token) (s : State), s.powered = true → s.awaits .pk .pick n → s.picker.state = .picking →
     s.tokenAt .picker = some t →
     exec (.picked .pk n) s = .next (closeEvent s (sendOrder .pk .put [u8 (laneNumber t.lane)]
       { setSite t .taken (endOrder .pk s) with
         picker := { s.picker with state := .putting }
         lanes := s.lanes.set t.lane { s.lanes.get t.lane with nest := .receiving } })))) ∧
  (∀ (n : Byte) (t : Token) (x : Site) (r : Recipe) (k : Table) (s : State), s.powered = true → s.awaits .pk .pick n →
     s.picker.state = .picking → s.tokenAt .picker = some t → (s.slots.get t.slot).site t.row t.col = some x →
     x.state = .reserved → s.recipes.active.get t.dieType = some r → s.tableOfSlot t.slot = some k →
     (x.attempts + 1 ≤ r.retryLimit → exec (.pickFail .pk n) s = .next (closeEvent s
       (sendOrder .pk .pick [u8 (tableCode k)] ((endOrder .pk s).updSlot t.slot fun sl =>
         sl.updSite t.row t.col fun y => { y with attempts := x.attempts + 1 })))) ∧
     (r.retryLimit < x.attempts + 1 → exec (.pickFail .pk n) s =
       .next (closeEvent s (setPicker .idle (missToken t (endOrder .pk s)))))) ∧
  (∀ (t : Token) (s : State),
    let sl := s.slots.get t.slot
    let site (st : SiteState) : List (List Site) :=
      sl.sites.modify t.row fun row => row.modify t.col fun x => { x with state := st, attempts := 0 }
    let log := { s.log with reserved := if t.reserved then s.log.reserved - 1 else s.log.reserved }
    releaseToken t s = removeToken t (settlePosition t .empty { s with
      slots := s.slots.set t.slot { sl with sites := site .present, floorRow := min sl.floorRow t.row }
      searchAgain := ⟨s.searchAgain.one || s.control.waits.one.waiting, s.searchAgain.two || s.control.waits.two.waiting⟩
      log := log }) ∧
    missToken t s = removeToken t (settlePosition t .empty { s with
      slots := s.slots.set t.slot { sl with sites := site .missed }
      log := log }) ∧
    setSite t .taken s = { s with slots := s.slots.set t.slot { sl with sites := site .taken } } ∧
    (∀ st r c, ({ sl with sites := site st } : Slot).site r c =
      if r = t.row ∧ c = t.col then (sl.site r c).map fun x => { x with state := st, attempts := 0 } else sl.site r c)) ∧
  (∀ (t : Token) (s : State),
    let rest := { s with tokens := s.tokens.filter fun u => decide (u.place ≠ t.place) }
    let finished : Prop := s.strip.state = .active ∧ s.strip.done = false ∧ (∀ u ∈ s.strip.units, u.resolved = true) ∧ rest.tokens = []
    let done := raise
      (.stripDone s.strip.stripId s.strip.verdict (s.strip.countUnits .complete) (s.strip.countUnits .flawed)
        (s.strip.countUnits .skipped) (s.strip.countUnits .voided)) { rest with strip := { s.strip with done := true } }
    let eject : Prop := s.control.cell = .running ∧ s.links.ix.state = .up ∧ s.links.ix.outstanding = none
    (¬finished → removeToken t s = rest) ∧
    (finished → ¬eject → removeToken t s = done) ∧
    (finished → eject → removeToken t s =
      sendOrder .ix .ejectStrip [] { done with strip := { s.strip with done := true, state := .ejecting } }))

/-- PUT-DONE moves the token to its lane's nest, which settles, is READY or is BLOCKED; DROPPED records the die with no
lane and empties the nest. A token moved changes its place alone; a nest is emptied from RECEIVING and from no other
state. -/
def Obligations.PutDoneAndDropped : Prop :=
  (∀ (n : Byte) (t : Token) (s : State), s.powered = true → s.awaits .pk .put n → s.picker.state = .putting →
    s.tokenAt .picker = some t →
    (let nest (st : NestState) (timer : Option Nat) : Host.Outcome State Fault Refusal :=
      .next (closeEvent s { moveToken t (.nest t.lane) (endOrder .pk s) with
        picker := { s.picker with state := .idle }
        lanes := s.lanes.set t.lane { s.lanes.get t.lane with nest := st, settleTimer := timer } })
     ((s.links.get (bonderLink t.lane)).state = .up → (s.lanes.get t.lane).settle = 0 →
        exec (.putDone .pk n) s = nest .ready none) ∧
     ((s.links.get (bonderLink t.lane)).state = .up → 0 < (s.lanes.get t.lane).settle →
        exec (.putDone .pk n) s = nest .settling (some (s.lanes.get t.lane).settle)) ∧
     ((s.links.get (bonderLink t.lane)).state ≠ .up → exec (.putDone .pk n) s = nest .blocked none)) ∧
    exec (.dropped .pk n) s = .next (closeEvent s (setPicker .idle (emptyReceiving t.lane
      (settleDie t .dropped none none none .empty (endOrder .pk s)))))) ∧
  (∀ (t : Token) (p : Place) (s : State),
    moveToken t p s = { s with tokens := s.tokens.map fun u => if u.place = t.place then { u with place := p } else u }) ∧
  (∀ (n : Lane) (s : State),
    ((s.lanes.get n).nest = .receiving →
      emptyReceiving n s = { s with lanes := s.lanes.set n { s.lanes.get n with nest := .empty } }) ∧
    ((s.lanes.get n).nest ≠ .receiving → emptyReceiving n s = s)) ∧
  (∀ (p : PickerState) (s : State), setPicker p s = { s with picker := ⟨p, s.picker.lastLane⟩ })

/-- ABORTED on PK by what the picker holds, and PURGED on PK. -/
def Obligations.AbortedAndPurgedOnPk : Prop :=
  (∀ (n : Byte) (t : Token) (s : State), s.powered = true → s.awaits .pk .abort n → s.picker.state = .aborting →
    s.tokenAt .picker = some t →
    (s.siteState t = some .reserved → exec (.abortedPk n 0) s =
      .next (closeEvent s (setPicker .idle (releaseToken t (endOrder .pk s))))) ∧
    (s.siteState t = some .reserved → exec (.abortedPk n 1) s =
      .next (closeEvent s (sendOrder .pk .purge [] (setPicker .purging (setSite t .taken (endOrder .pk s)))))) ∧
    (s.siteState t = some .taken → exec (.abortedPk n 1) s =
      .next (closeEvent s (sendOrder .pk .purge [] (setPicker .purging (emptyReceiving t.lane (endOrder .pk s)))))) ∧
    (s.siteState t = some .taken → exec (.abortedPk n 0) s =
      .next (closeEvent s { moveToken t (.nest t.lane) (endOrder .pk s) with
        picker := { s.picker with state := .idle }
        lanes := s.lanes.set t.lane { s.lanes.get t.lane with nest := .blocked, settleTimer := none } }))) ∧
  (∀ (n : Byte) (t : Token) (s : State), s.powered = true → s.awaits .pk .purge n → s.picker.state = .purging →
    s.tokenAt .picker = some t →
    exec (.purgedOnPk n) s =
      .next (closeEvent s (setPicker .idle (settleDie t .purged none none none .empty (endOrder .pk s)))))

/-- The record of a die's fate: serial, fields from the token, the strip fields from the bond context or the destination,
the reservation used, the disposal count one more. Under OVERWRITE a full log loses its newest record to it. (Under
STALL a creation always finds room, R145; a full log under STALL is no state of a run, notes/assumptions/23.md, and what
becomes of its records is not stated.) LOG is raised with the causes that hold and the record count while LEVEL or AGED
holds, and ceases when neither does. A die is settled by its position, its record and its token. -/
def Obligations.CreatingAPlacementRecord : Prop :=
  (∀ (t : Token) (fate : Fate) (lane : Option Lane) (ctx : Option BondContext) (bond : Option BondFields) (s : State),
    ∃ (p : Placement) (u : State), createRecord t fate lane ctx bond s = syncLog u ∧
      u.log = { s.log with
        records := u.log.records, overwritten := u.log.overwritten, ageTimer := u.log.ageTimer
        serial := s.log.serial + 1, reserved := if t.reserved then s.log.reserved - 1 else s.log.reserved } ∧
      (s.log.records.length < 1024 → u.log.records = s.log.records ++ [p] ∧ u.log.overwritten = s.log.overwritten) ∧
      (s.log.policy = .overwrite → 1024 ≤ s.log.records.length → u.log.records = s.log.records.dropLast ++ [p] ∧
        u.log.overwritten = min 65535 (s.log.overwritten + 1)) ∧
      (u.log.ageTimer = if 1 ≤ u.log.records.length ∧ u.log.records.length < s.log.trigger
        then some (1000 * s.log.ageTimeout) else none) ∧
      u.slots = s.slots.set t.slot { s.slots.get t.slot with disposal := (s.slots.get t.slot).disposal + 1 } ∧
      u = { s with log := u.log, slots := u.slots } ∧
      p = ⟨s.log.serial, fate, lane, t.slot, (s.slots.get t.slot).waferId, t.dieType, t.row, t.col, t.bin, t.cls,
        t.generation, p.strip, bond⟩ ∧
      (t.dest = none → ctx = none → p.strip = none) ∧
      (∀ d v, t.dest = some d → ctx = none → s.unit d.unit = some v →
        ∃ id, p.strip = some ⟨id, v.row, v.col, d.pos⟩ ∧ ∀ w, s.strip.stripId = some w → id = w) ∧
      (∀ c, ctx = some c → ∃ id, p.strip = some ⟨id, c.row, c.col, c.pos⟩ ∧ ∀ w, s.strip.stripId = some w → id = w)) ∧
  (∀ s : State,
    let level : Prop := s.log.trigger ≤ s.log.records.length
    (level ∨ s.log.aged = true → syncLog s = raise (.log (decide level) s.log.aged s.log.records.length) s) ∧
    (¬level → s.log.aged = false →
      syncLog s = { s with conds := s.conds.set .log { s.conds.get .log with detail := none } })) ∧
  (∀ (t : Token) (fate : Fate) (lane : Option Lane) (ctx : Option BondContext) (bond : Option BondFields) (st : PosState)
    (s : State), settleDie t fate lane ctx bond st s = removeToken t (createRecord t fate lane ctx bond (settlePosition t st s)))

/-! ## Bond lanes -/

/-- SET-LANE writes the lanes of its mask and no other, and answers one byte for each lane of the mask
(notes/assumptions/30.md); READ-LANE clears the offset-failure count; RESTORE-LANE clears the
degraded flag and the count. -/
def Obligations.LaneCommands : Prop :=
  ∀ (tag : Byte) (s : State), s.powered = true →
    (∀ (m i t : Byte) (e : Bool), 1 ≤ t.toNat → t.toNat ≤ 63 → (m.toNat.testBit 0 = true ∨ m.toNat.testBit 1 = true) →
      ∃ (u : State) (results : List Byte), exec (.setLane tag [m, i, t, flag e]) s =
          .next (reply 56 tag (0 :: results) (closeEvent s u)) ∧
        u = { s with lanes := u.lanes } ∧
        u.lanes.one = (if m.toNat.testBit 0 then { s.lanes.one with enable := e, settle := i.toNat, threshold := t.toNat }
          else s.lanes.one) ∧
        u.lanes.two = (if m.toNat.testBit 1 then { s.lanes.two with enable := e, settle := i.toNat, threshold := t.toNat }
          else s.lanes.two) ∧
        results = (if m.toNat.testBit 0 then [flag (u.usable .one)] else []) ++
          (if m.toNat.testBit 1 then [flag (u.usable .two)] else [])) ∧
    (∀ n : Lane, exec (.readLane tag [u8 (laneNumber n)]) s =
      .next (reply 57 tag (0 :: s.laneResults n)
        { s with lanes := s.lanes.set n { s.lanes.get n with offsetFailures := 0 } })) ∧
    (∀ n : Lane, exec (.restoreLane tag [u8 (laneNumber n)]) s =
      .next (reply 58 tag [0, flag (s.lanes.get n).degraded] (closeEvent s
        { s with lanes := s.lanes.set n { s.lanes.get n with degraded := false, offsetFailures := 0 } })))

/-- SETTLE_EXPIRY makes a SETTLING nest READY, and does nothing after STOP; TAKE and NEST_PURGE go out when their
conditions hold. -/
def Obligations.NestSteps : Prop :=
  ∀ (n : Lane) (s : State), s.powered = true →
    ((s.lanes.get n).nest = .settling → (s.lanes.get n).settleTimer.isSome = true → s.control.cell ≠ .stopping →
      exec (.settleExpiry n) s =
      .next (closeEvent s { s with lanes := s.lanes.set n { s.lanes.get n with nest := .ready, settleTimer := none } })) ∧
    ((s.lanes.get n).nest ≠ .settling ∨ s.control.cell = .stopping → exec (.settleExpiry n) s = .next s) ∧
    ((s.links.get (bonderLink n)).state = .up → (s.links.get (bonderLink n)).outstanding = none →
      (s.lanes.get n).collet = .idle →
      ((s.lanes.get n).nest = .ready → (s.control.cell = .running ∨ s.control.cell = .holding) →
        exec (.take n) s = .next (sendOrder (bonderLink n) .take []
          { s with lanes := s.lanes.set n { s.lanes.get n with collet := .taking } })) ∧
      ((s.lanes.get n).nest = .blocked ∨
          ((s.lanes.get n).nest = .settling ∨ (s.lanes.get n).nest = .ready) ∧ s.control.cell = .stopping →
        exec (.nestPurge n) s = .next (sendOrder (bonderLink n) .purge [1]
          { s with lanes := s.lanes.set n { s.lanes.get n with
            nest := .blocked, settleTimer := none, collet := .purging, purge := some .nest } }))) ∧
    (s.control.cell = .stopping → exec (.take n) s = .next s)

/-- TAKEN moves the token to the collet and empties the nest; with a destination BOND goes out and the cycle index
used advances by one, without one the collet is purged (what moving a token does is stated in PutDoneAndDropped).
TOUCHED opens the dwell, tared on the latest idle sample when the monitor is enabled, and restarts the watchdog with the
limit for BOND. That the latest sample as it stands is the tare also after a SET-FORCE changed the gain in the dwell
before is the model's reading (notes/assumptions/29.md). -/
def Obligations.TakenAndTouched : Prop :=
  (∀ (n : Lane) (k : Byte) (t : Token) (s : State), s.powered = true → s.awaits (bonderLink n) .take k →
     (s.lanes.get n).collet = .taking → s.tokenAt (.nest n) = some t →
     let moved := moveToken t (.collet n) (endOrder (bonderLink n) s)
     (t.dest = none → exec (.taken (bonderLink n) k) s = .next (closeEvent s (sendOrder (bonderLink n) .purge [0]
       { moved with lanes := s.lanes.set n { s.lanes.get n with
         nest := .empty, settleTimer := none, collet := .purging, purge := some .collet, abort := none } }))) ∧
     (∀ d u p r, t.dest = some d → s.unit d.unit = some u → u.position d.pos = some p →
       s.recipes.active.get t.dieType = some r →
       let index := (s.recipes.cycle.get n).get t.dieType
       exec (.taken (bonderLink n) k) s = .next (closeEvent s (sendOrder (bonderLink n) .bond
         ([u8 u.row, u8 u.col] ++ i16 p.x ++ i16 p.y ++ [u8 (r.quanta index)] ++ u16 r.setpoint ++ [u8 r.dwell])
         { moved with
           recipes := { s.recipes with cycle := s.recipes.cycle.set n ((s.recipes.cycle.get n).set t.dieType (index + 1)) }
           lanes := s.lanes.set n { s.lanes.get n with
             nest := .empty, settleTimer := none, collet := .bonding
             bond := some ⟨u.index, u.row, u.col, d.pos, r.quanta index, index⟩ } })))) ∧
  (∀ (n : Lane) (k : Byte) (s : State), s.powered = true → s.awaits (bonderLink n) .bond k →
     (s.lanes.get n).collet = .bonding →
     let m := s.monitors.get n
     exec (.touched (bonderLink n) k) s = .next (closeEvent s { s with
       lanes := s.lanes.set n { s.lanes.get n with collet := .dwell }
       monitors := s.monitors.set n { m with
         state := if m.enable then .dwell else .unwatched, tare := if m.enable then m.latest.getD 0 else 0
         dwellMin := none, dwellMax := none, count := 0 }
       links := s.links.set (bonderLink n)
         { s.links.get (bonderLink n) with watchdog := some (10 * s.limits.bond) } }))

/-- BONDED closes the dwell, gives the position its result, records the die, counts an offset fault, and leaves the collet
IDLE. A position settles only when the token has a destination and the position is ALLOCATED: it takes the state, the
EMPTY positions stacked on a lost base are ABANDONED in turn, and an ASSEMBLING unit becomes OPEN with no group when
every position is EMPTY, COMPLETE when every one is PLACED, and FLAWED when all are final and not all PLACED. -/
def Obligations.BondedSettlesTheDie : Prop :=
  (∀ (n : Lane) (k : Byte) (dx dy rot : BitVec 16) (seen : Bool) (t : Token) (r : Recipe) (c : BondContext) (s : State),
    s.powered = true → s.awaits (bonderLink n) .bond k → (s.lanes.get n).collet = .dwell →
    s.tokenAt (.collet n) = some t → s.recipes.active.get t.dieType = some r → (s.lanes.get n).bond = some c →
    let m := s.monitors.get n
    let fault := offsetFault r dx.toInt dy.toInt rot.toInt seen
    let result := bondResult fault (m.verdict r)
    let b : BondFields := ⟨c.quanta, c.cycle, dx.toInt, dy.toInt, rot.toInt, seen, fault, m.tare, m.dwellMin.getD 0,
      m.dwellMax.getD 0, m.count, m.verdict r, result⟩
    let closed := { endOrder (bonderLink n) s with monitors := s.monitors.set n { m with state := .idle } }
    let recorded := createRecord t .bonded (some n) (some c) (some b)
      (settlePosition t (match result with | .placed => .placed | .suspect => .suspect) closed)
    exec (.bonded (bonderLink n) k dx dy rot (if seen then 0 else 1)) s =
      .next (closeEvent s ((removeToken t (if fault then countOffsetFault n recorded else recorded)).updLane n colletIdle))) ∧
  (∀ (t : Token) (st : PosState) (s : State),
    (t.dest = none → settlePosition t st s = s) ∧
    (∀ d u p, t.dest = some d → s.unit d.unit = some u → u.position d.pos = some p →
      (p.state ≠ .allocated → settlePosition t st s = s) ∧
      (p.state = .allocated → settlePosition t st s = { s with strip := { s.strip with
        units := s.strip.units.set d.unit (u.setPosition d.pos st) } }))) ∧
  (∀ (u : StripUnit) (k : Nat) (st : PosState), 1 ≤ k →
    (∀ (j b : Nat) (p : Position), u.positions[j]? = some p → p.stackOn = some b → 1 ≤ b ∧ b ≤ j) →
    let v := u.setPosition k st
    let lost (x : PosState) : Prop := x = .suspect ∨ x = .uncertain ∨ x = .abandoned
    v.positions.length = u.positions.length ∧
    (∀ (j : Nat) (p : Position), u.positions[j]? = some p →
      let own := if j + 1 = k then st else p.state
      let baseLost : Prop := ∃ b q, p.stackOn = some b ∧ v.positions[b - 1]? = some q ∧ lost q.state
      (own = .empty → baseLost → v.positions[j]? = some { p with state := .abandoned }) ∧
      (own ≠ .empty ∨ ¬baseLost → v.positions[j]? = some { p with state := own })) ∧
    v = { u with positions := v.positions, state := v.state, group := v.group } ∧
    (u.state ≠ .assembling → v.state = u.state ∧ v.group = u.group) ∧
    (u.state = .assembling →
      let final (x : PosState) : Prop := x = .placed ∨ lost x
      ((∀ q ∈ v.positions, q.state = .empty) → v.state = .opened ∧ v.group = none) ∧
      ((∃ q ∈ v.positions, q.state ≠ .empty) → v.group = u.group ∧
        ((∀ q ∈ v.positions, q.state = .placed) → v.state = .complete) ∧
        ((∀ q ∈ v.positions, final q.state) → (∃ q ∈ v.positions, q.state ≠ .placed) → v.state = .flawed) ∧
        ((∃ q ∈ v.positions, ¬final q.state) → v.state = .assembling))))

/-- The verdicts of a bond: the offset verdict by the recipe's limits, the force verdict by Table 7-3, the result by
Table 6-5. An offset fault makes the count one more, stopping at 255; the count at or above the threshold makes
a lane DEGRADED and raises LANE-OUT once. -/
def Obligations.BondVerdictsAndTheFaultCount : Prop :=
  ((∀ (r : Recipe) (dx dy rot : Int) (seen : Bool), offsetFault r dx dy rot seen = true ↔
     seen = false ∨ r.offsetLimit < dx.natAbs ∨ r.offsetLimit < dy.natAbs ∨ r.rotationLimit < rot.natAbs) ∧
   (∀ (m : Monitor) (r : Recipe) (lo hi : Nat),
     (m.state = .unwatched → m.verdict r = .notMonitored) ∧ (m.state = .spoiled → m.verdict r = .unmeasured) ∧
     (m.state = .dwell → m.count = 0 → m.verdict r = .unmeasured) ∧
     (m.state = .dwell → 0 < m.count → m.dwellMin = some lo → m.dwellMax = some hi →
       m.verdict r = if lo < r.windowLow then .low else if r.windowHigh < hi then .high else .good)) ∧
   (∀ v, bondResult true v = .suspect) ∧
   (∀ v, bondResult false v = .placed ↔ v = .good ∨ v = .notMonitored)) ∧
  (∀ (n : Lane) (s : State),
     let r := s.lanes.get n
     let count := min 255 (r.offsetFailures + 1)
     (count < r.threshold ∨ r.degraded = true → countOffsetFault n s =
       { s with lanes := s.lanes.set n { r with offsetFailures := count } }) ∧
     (r.threshold ≤ count → r.degraded = false → countOffsetFault n s =
       raise (.laneOut n .degraded) { s with lanes := s.lanes.set n { r with offsetFailures := count, degraded := true } }))

/-- PURGED on a bonder link records the token purged, if any, empties the nest when it was the source, and leaves
the collet IDLE. ABORTED on a bonder link, by abort origin and holds die. An IDLE collet has no bond context, purge
source or abort origin; an abandoned dwell leaves the monitor IDLE. -/
def Obligations.PurgesAndAbortsOfABonder : Prop :=
  (∀ (n : Lane) (k : Byte) (s : State), s.powered = true → s.awaits (bonderLink n) .purge k →
     (s.lanes.get n).collet = .purging →
     ((s.lanes.get n).purge = some .nest → s.tokenAt (.nest n) = none → exec (.purged (bonderLink n) k) s =
       .next (closeEvent s { endOrder (bonderLink n) s with
       lanes := s.lanes.set n
         { colletIdle (s.lanes.get n) with nest := .empty, settleTimer := none } })) ∧
     (∀ t, (s.lanes.get n).purge = some .nest → s.tokenAt (.nest n) = some t → exec (.purged (bonderLink n) k) s =
       .next (closeEvent s ((settleDie t .purged (some n) none none .empty (endOrder (bonderLink n) s)).updLane n
         fun r => { colletIdle r with nest := .empty, settleTimer := none }))) ∧
     (∀ t, (s.lanes.get n).purge = some .collet → s.tokenAt (.collet n) = some t → exec (.purged (bonderLink n) k) s =
       .next (closeEvent s ((settleDie t .purged (some n) none none .empty (endOrder (bonderLink n) s)).updLane n
         colletIdle)))) ∧
  (∀ (n : Lane) (k : Byte) (s : State), s.powered = true → s.awaits (bonderLink n) .abort k →
     (s.lanes.get n).collet = .aborting →
     let e := endOrder (bonderLink n) s
     let purge (t : State) : State := sendOrder (bonderLink n) .purge [0]
       (t.updLane n fun r => { r with collet := .purging, purge := some .collet, abort := none })
     ((s.lanes.get n).abort = some .taking →
       exec (.abortedBonder n k 0) s = .next (closeEvent s (e.updLane n colletIdle)) ∧
       ∀ t, s.tokenAt (.nest n) = some t → exec (.abortedBonder n k 1) s = .next (closeEvent s
         (purge ((moveToken t (.collet n) e).updLane n fun r => { r with nest := .empty, settleTimer := none })))) ∧
     ((s.lanes.get n).abort = some .bonding → exec (.abortedBonder n k 1) s = .next (closeEvent s (purge e))) ∧
     ((s.lanes.get n).abort = some .dwell → exec (.abortedBonder n k 1) s = .next (closeEvent s (purge (abandonDwell n e)))) ∧
     (∀ t, s.tokenAt (.collet n) = some t →
       ((s.lanes.get n).abort = some .bonding → exec (.abortedBonder n k 0) s = .next (closeEvent s
         ((settleDie t .unknown (some n) (s.lanes.get n).bond none .uncertain e).updLane n colletIdle))) ∧
       ((s.lanes.get n).abort = some .dwell → exec (.abortedBonder n k 0) s = .next (closeEvent s
         ((settleDie t .unknown (some n) (s.lanes.get n).bond none .uncertain (abandonDwell n e)).updLane n colletIdle))))) ∧
  (∀ r : LaneRec, colletIdle r = { r with collet := .idle, bond := none, purge := none, abort := none }) ∧
  (∀ (n : Lane) (s : State),
    abandonDwell n s = { s with monitors := s.monitors.set n { s.monitors.get n with state := .idle } })

/-! ## Force monitors -/

/-- SET-FORCE spoils an open dwell and clears the sample of an idle monitor it changes; a monitor it disables in an open
dwell loses its sample and its fresh flag at that moment (R132; that this is the moment is the model's reading,
notes/assumptions/28.md). The reply has one byte for each lane of the mask (notes/assumptions/30.md). READ-FORCE clears
the fresh flag. A gain goes by the code 0 for ×1 and 1 for ×4 (the model's reading, notes/assumptions/31.md). -/
def Obligations.ForceCommands : Prop :=
  ∀ (tag : Byte) (s : State), s.powered = true →
    (∀ (m : Byte) (e : Bool) (g : Gain), (m.toNat.testBit 0 = true ∨ m.toNat.testBit 1 = true) →
      let set (x : Monitor) : Monitor :=
        let latest := if e then x.latest else none
        let fresh := if e then x.fresh else false
        match x.state with
        | .dwell | .unwatched => { x with enable := e, gain := g, state := .spoiled, latest := latest, fresh := fresh }
        | .spoiled => { x with enable := e, gain := g, latest := latest, fresh := fresh }
        | .idle => if x.enable = e ∧ x.gain = g then x else { x with enable := e, gain := g, latest := none, fresh := false }
      let spoilt (x : Monitor) : Byte := flag (decide (x.state = .dwell) || decide (x.state = .unwatched))
      exec (.setForce tag [m, flag e, match g with | .x1 => 0 | .x4 => 1]) s = .next (reply 64 tag
        (0 :: ((if m.toNat.testBit 0 then [spoilt s.monitors.one] else []) ++
          (if m.toNat.testBit 1 then [spoilt s.monitors.two] else [])))
        { s with monitors := ⟨if m.toNat.testBit 0 then set s.monitors.one else s.monitors.one,
          if m.toNat.testBit 1 then set s.monitors.two else s.monitors.two⟩ })) ∧
    (∀ n : Lane, exec (.readForce tag [u8 (laneNumber n)]) s =
      .next (reply 65 tag (0 :: (s.monitors.get n).results)
        { s with monitors := s.monitors.set n { s.monitors.get n with fresh := false } }))

/-- A completed idle conversion is the latest sample; a completed dwell conversion, less the tare and not below 0,
moves the dwell's count, minimum and maximum; a standing converter gives nothing. That the input comes in counts,
capped at 1023, is the model's choice (notes/assumptions/20.md). -/
def Obligations.Conversions : Prop :=
  ∀ (n : Lane) (counts : Nat) (s : State), s.powered = true →
    let m := s.monitors.get n
    let x := min 1023 counts
    (m.enable = true → m.state = .idle → exec (.idleConversion n counts) s =
      .next { s with monitors := s.monitors.set n { m with latest := some x, fresh := true } }) ∧
    (m.enable = true → m.state = .dwell → exec (.dwellConversion n counts) s =
      .next { s with monitors := s.monitors.set n { m with
        count := min 65535 (m.count + 1)
        dwellMin := some (match m.dwellMin with | none => x - m.tare | some v => min v (x - m.tare))
        dwellMax := some (match m.dwellMax with | none => x - m.tare | some v => max v (x - m.tare)) } }) ∧
    (m.enable = false ∨ m.state ≠ .idle → exec (.idleConversion n counts) s = .next s) ∧
    (m.enable = false ∨ m.state ≠ .dwell → exec (.dwellConversion n counts) s = .next s)

/-! ## Placement log -/

/-- SET-LOG, FETCH-LOG and the age timer's expiry. How LOG then follows the causes that hold is stated in
CreatingAPlacementRecord. That the trigger goes by its number is the model's reading (notes/assumptions/31.md), and that
FETCH-LOG answers its counts before the grant it allows another (notes/assumptions/14.md). -/
def Obligations.LogCommands : Prop :=
  ∀ (tag : Byte) (s : State), s.powered = true →
    (∀ (p : Policy) (lo hi age : Byte), (nat16 lo hi = 128 ∨ nat16 lo hi = 256 ∨ nat16 lo hi = 512 ∨ nat16 lo hi = 896) →
      1 ≤ age.toNat →
      ((p = s.log.policy ∨ s.control.cell = .stopped) → exec (.setLog tag [p.code, lo, hi, age]) s =
        .next (reply 72 tag (0 :: u16 s.log.overwritten ++ u16 s.log.records.length ++ u16 s.log.reserved)
          (syncLog { s with log := { s.log with
            policy := p, trigger := nat16 lo hi, ageTimeout := age.toNat, overwritten := 0
            ageTimer := if 1 ≤ s.log.records.length ∧ s.log.records.length < nat16 lo hi ∧
                (s.log.ageTimer.isSome = true ∨ s.log.aged = false) then some (1000 * age.toNat) else none } }))) ∧
      (p ≠ s.log.policy → s.control.cell ≠ .stopped → exec (.setLog tag [p.code, lo, hi, age]) s =
        .next (reply 72 tag [4] s))) ∧
    (∀ n : Byte, 1 ≤ n.toNat → n.toNat ≤ 4 → exec (.fetchLog tag [n]) s =
      .next (reply 73 tag
        (0 :: u8 (min n.toNat s.log.records.length) :: u16 (s.log.records.length - n.toNat) ++ u16 s.log.reserved ++
          (s.log.records.take n.toNat).flatMap Placement.bytes)
        (closeEvent s (syncLog { s with log := { s.log with
          records := s.log.records.drop n.toNat, aged := false
          ageTimer := if 1 ≤ s.log.records.length - n.toNat ∧ s.log.records.length - n.toNat < s.log.trigger
            then some (1000 * s.log.ageTimeout) else none } })))) ∧
    (s.log.ageTimer.isSome = true → exec .ageTimerExpiry s =
      .next (syncLog { s with log := { s.log with aged := true, ageTimer := none } })) ∧
    (s.log.ageTimer = none → exec .ageTimerExpiry s = .next s)

/-! ## Production control -/

/-- RUN puts a STOPPED or HELD cell to RUNNING when PK and IX are UP, the lanes allow by the gating, and no strip is moving,
and is refused otherwise; HOLD takes a RUNNING cell to HOLDING. An event of a RUNNING cell after which PK or IX has left
UP holds it with cause LINK; one that made a lane unusable holds it with cause LANE, under ANY only while the other lane
is unusable too; any other event leaves it RUNNING. (That the event is judged by the states at its start and its end is
the model's reading, notes/assumptions/21.md.) -/
def Obligations.RunAndHold : Prop :=
  ∀ (tag : Byte) (s : State), s.powered = true →
    ((s.control.cell = .stopped ∨ s.control.cell = .held) → s.links.pk.state = .up → s.links.ix.state = .up →
      (s.usable .one = true ∧ s.usable .two = true ∨
        s.control.gating = .any ∧ (s.usable .one = true ∨ s.usable .two = true)) →
      (s.strip.state = .none ∨ s.strip.state = .active) →
      exec (.run tag []) s = .next (reply 80 tag [0]
        (closeEvent s { s with control := { s.control with cell := .running, holdCause := none } }))) ∧
    ((s.control.cell = .running ∨ s.control.cell = .holding ∨ s.control.cell = .stopping ∨ s.links.pk.state ≠ .up ∨
        s.links.ix.state ≠ .up ∨ s.strip.state = .loading ∨ s.strip.state = .ejecting ∨
        s.control.gating = .all ∧ (s.usable .one = false ∨ s.usable .two = false) ∨
        s.control.gating = .any ∧ s.usable .one = false ∧ s.usable .two = false) →
      exec (.run tag []) s = .next (reply 80 tag [4] s)) ∧
    (s.control.cell = .running → exec (.hold tag []) s = .next (reply 81 tag [0] (closeEvent s
      (endWait .two (endWait .one { s with control := { s.control with cell := .holding, holdCause := some .request } }))))) ∧
    ((s.control.cell = .holding ∨ s.control.cell = .held) → exec (.hold tag []) s = .next (reply 81 tag [0] s)) ∧
    ((s.control.cell = .stopped ∨ s.control.cell = .stopping) → exec (.hold tag []) s = .next (reply 81 tag [4] s)) ∧
    (∀ s0 : State, s.control.cell = .running →
      let gone (l : Link) : Prop := (s0.links.get l).state = .up ∧ (s.links.get l).state ≠ .up
      let out (n : Lane) : Prop := s0.usable n = true ∧ s.usable n = false
      let laneHold : Prop := s.control.gating = .all ∧ (out .one ∨ out .two) ∨
        s.control.gating = .any ∧ (out .one ∧ s.usable .two = false ∨ out .two ∧ s.usable .one = false)
      let heldBy (c : HoldCause) : Prop := (closeEvent s0 s).control.holdCause = some c ∧
        ((closeEvent s0 s).control.cell = .holding ∨ (closeEvent s0 s).control.cell = .held)
      (gone .pk ∨ gone .ix → heldBy .link) ∧
      (¬(gone .pk ∨ gone .ix) → laneHold → heldBy .lane) ∧
      (¬(gone .pk ∨ gone .ix) → ¬laneHold → (closeEvent s0 s).control.cell = .running))

/-- STOP makes the cell STOPPING and sends ABORT as any order is sent (SendingAnOrder) in place of every outstanding order
but a PURGE or an ABORT: it takes the link's next number, starts the watchdog and moves the test countdown, and one ABORT
frame goes out on each such link, with the picker and the collets ABORTING. A PURGE is left to end. A bonder's TAKE is
aborted while the collet is TAKING, its BOND while the collet is BONDING or DWELL. A cell at rest or already stopping is
left as it is. -/
def Obligations.StopAbortsTheOrders : Prop :=
  ∀ (tag : Byte) (s : State), s.powered = true →
    ((s.control.cell = .stopped ∨ s.control.cell = .stopping) → exec (.stop tag []) s = .next (reply 82 tag [0] s)) ∧
    ((s.control.cell = .running ∨ s.control.cell = .holding ∨ s.control.cell = .held) →
      let order (l : Link) : Option OrderKind := (s.links.get l).outstanding.map (·.kind)
      let origin (n : Lane) : Option AbortOrigin := match (s.lanes.get n).collet with
        | .taking => some .taking
        | .bonding => some .bonding
        | .dwell => some .dwell
        | .idle | .purging | .aborting => none
      let aborted (l : Link) : Bool := match l with
        | .ta | .tb => decide (order l = some .loadWafer ∨ order l = some .unloadWafer ∨ order l = some .step)
        | .pk => decide (order l = some .pick ∨ order l = some .put)
        | .b1 => (order l).isSome && (origin .one).isSome
        | .b2 => (order l).isSome && (origin .two).isSome
        | .ix => decide (order l = some .loadStrip ∨ order l = some .ejectStrip)
      let frame (l : Link) : LineEvent := .frame l (s.links.get l).nextNumber 12 []
        (if (s.links.get l).test = 1 then ~~~ crc8 [(s.links.get l).nextNumber, 12] else crc8 [(s.links.get l).nextNumber, 12])
      ∃ u : State, exec (.stop tag []) s = .next (reply 82 tag [0] (closeEvent s u)) ∧
        u.control.cell = .stopping ∧ u.control.holdCause = none ∧ (∀ n, (u.control.waits.get n).waiting = false) ∧
        (∀ l, aborted l = true → u.links.get l = { s.links.get l with
          nextNumber := (s.links.get l).nextNumber + 1, outstanding := some ⟨.abort, (s.links.get l).nextNumber⟩
          watchdog := some (10 * s.limits.abort), test := (s.links.get l).test - 1 }) ∧
        (∀ l, aborted l = false → u.links.get l = s.links.get l) ∧
        (∃ sent, u.wire = s.wire ++ sent ∧ sent.Perm (([.ta, .tb, .pk, .b1, .b2, .ix].filter aborted).map frame)) ∧
        u.picker = (if aborted .pk = true then { s.picker with state := .aborting } else s.picker) ∧
        (∀ n, aborted (bonderLink n) = true →
          u.lanes.get n = { s.lanes.get n with collet := .aborting, abort := origin n }) ∧
        (∀ n, aborted (bonderLink n) = false → u.lanes.get n = s.lanes.get n) ∧
        ((∀ n, (s.control.waits.get n).starved = false) → u.conds = s.conds ∧ u.host = s.host) ∧
        u = { s with
          links := u.links, wire := u.wire, lanes := u.lanes, picker := u.picker, conds := u.conds, host := u.host
          control := { s.control with cell := .stopping, holdCause := none, waits := u.control.waits } })

/-- SET-CELL in a STOPPED cell; RELAX-UNIT and VOID-UNIT on an unresolved unit of an ACTIVE strip. -/
def Obligations.SetCellRelaxAndVoid : Prop :=
  (∀ (tag t : Byte) (g : Gating) (s : State), s.powered = true → 1 ≤ t.toNat →
    (s.control.cell = .stopped → exec (.setCell tag [g.code, t]) s =
      .next (reply 83 tag [0, s.control.gating.code, u8 s.control.timeout]
        (closeEvent s { s with control := { s.control with gating := g, timeout := t.toNat } }))) ∧
    (s.control.cell ≠ .stopped → exec (.setCell tag [g.code, t]) s = .next (reply 83 tag [4] s))) ∧
  (∀ (tag g t : Byte) (s : State), s.powered = true → s.control.cell = .stopped → (2 ≤ g.toNat ∨ t = 0) →
    exec (.setCell tag [g, t]) s = .next (reply 83 tag [3] s)) ∧
  (∀ (tag row col : Byte) (u : StripUnit) (s : State), s.powered = true → s.strip.state = .active →
    row.toNat ≤ 7 → col.toNat ≤ 39 → s.strip.unitAt row.toNat col.toNat = some u →
    (u.resolved = true → exec (.relaxUnit tag [row, col]) s = .next (reply 84 tag [4] s) ∧
      exec (.voidUnit tag [row, col]) s = .next (reply 85 tag [4] s)) ∧
    (u.resolved = false →
      (∃ units, exec (.relaxUnit tag [row, col]) s = .next (reply 84 tag [0, flag u.relaxed]
          (closeEvent s (selectionChange { s with strip := { s.strip with units := units } }))) ∧
        units = s.strip.units.map fun v => if v.row = row.toNat ∧ v.col = col.toNat then { v with relaxed := true } else v) ∧
      (∃ units tokens, exec (.voidUnit tag [row, col]) s = .next (reply 85 tag
          [0, u8 (u.positions.filter fun p => decide (p.state = .empty) || decide (p.state = .allocated)).length,
            u8 (s.tokens.filter fun k => k.dest.any fun d => decide (d.unit = u.index)).length]
          (closeEvent s { s with strip := { s.strip with units := units }, tokens := tokens })) ∧
        (units = s.strip.units.map fun v => if v.row = row.toNat ∧ v.col = col.toNat then
          { v with state := .voided, positions := v.positions.map fun p =>
            if p.state = .empty ∨ p.state = .allocated then { p with state := .abandoned } else p } else v) ∧
        tokens = s.tokens.map fun k => if k.dest.any fun d => decide (d.unit = u.index) then { k with dest := none } else k)))

/-- ENTER_HELD, ENTER_STOPPED, UNIT_REASSIGNMENT, with the end of a lane's waiting that it brings about, a lane's entry
into waiting, and STARVATION_EXPIRY. A lane whose search failed waits with the reason and its next position; its
starvation timer starts when it was not waiting and runs on when it was; a starved lane whose reason changes raises
UNIT-STARVED again. That a starved lane's stopped timer stays stopped then is the model's reading (DEDUCED,
notes/assumptions/32.md). -/
def Obligations.ControlSteps : Prop :=
  ∀ s : State, s.powered = true →
    (s.control.cell = .holding → s.tokens = [] → s.links.ix.outstanding = none → exec .enterHeld s =
      .next (raise (.cellHeld s.control.holdCause) { s with control := { s.control with cell := .held } })) ∧
    (s.control.cell ≠ .holding ∨ s.tokens ≠ [] ∨ s.links.ix.outstanding ≠ none → exec .enterHeld s = .next s) ∧
    (s.control.cell = .stopping → s.tokens = [] → (∀ l, (s.links.get l).outstanding = none) → exec .enterStopped s =
      .next { s with control := { s.control with cell := .stopped } }) ∧
    (s.control.cell ≠ .stopping ∨ s.tokens ≠ [] ∨ (∃ l, (s.links.get l).outstanding ≠ none) →
      exec .enterStopped s = .next s) ∧
    (∀ n, s.control.gating = .any → s.strip.state = .active → s.usable n = true → s.usable (otherLane n) = false →
      let r := { s with strip := { s.strip with units := s.strip.units.map fun u =>
        if u.state = .opened then { u with lane := n } else u } }
      let ends (m : Lane) (x : State) : State :=
        if (s.control.waits.get m).waiting = true ∧ (s.control.waits.get m).position ≠ r.strip.nextPosition m then endWait m x
        else x
      (s.control.waits.one.waiting = false → s.control.waits.two.waiting = false → exec .unitReassignment s = .next r) ∧
      exec .unitReassignment s = .next (ends .two (ends .one r))) ∧
    (∀ m,
      let freed := { s with control := { s.control with waits := s.control.waits.set m ⟨false, none, none, none, false⟩ } }
      let w := s.control.waits.get m
      let other := s.control.waits.get (otherLane m)
      (w.waiting = false → endWait m s = s) ∧
      (w.waiting = true → w.starved = false → endWait m s = freed) ∧
      (w.waiting = true → w.starved = true → other.starved = false → endWait m s = { freed with
        conds := s.conds.set .unitStarved { s.conds.get .unitStarved with detail := none } }) ∧
      (∀ p u, w.waiting = true → w.starved = true → other.starved = true → other.position = some p → s.unit p.unit = some u →
        endWait m s = raise (.unitStarved (otherLane m) u.row u.col p.pos other.reason) freed)) ∧
    (∀ m r,
      let w := s.control.waits.get m
      let next := s.strip.nextPosition m
      let waits (x : Wait) : State := { s with control := { s.control with waits := s.control.waits.set m x } }
      (w.waiting = false → enterWait m r s = waits ⟨true, some r, next, some (1000 * s.control.timeout), false⟩) ∧
      (w.waiting = true → (w.starved = false ∨ w.reason = some r) →
        enterWait m r s = waits { w with reason := some r, position := next }) ∧
      (∀ p u, w.waiting = true → w.starved = true → w.reason ≠ some r → next = some p → s.unit p.unit = some u →
        enterWait m r s = raise (.unitStarved m u.row u.col p.pos (some r)) (waits { w with reason := some r, position := next }))) ∧
    (∀ n, (s.control.waits.get n).waiting = true → (s.control.waits.get n).timer.isSome = true →
      ∃ d : Detail, d.cond = .unitStarved ∧
        (∀ p u, (s.control.waits.get n).position = some p → s.unit p.unit = some u →
          d = .unitStarved n u.row u.col p.pos (s.control.waits.get n).reason) ∧
        exec (.starvationExpiry n) s = .next (raise d { s with control := { s.control with
        waits := s.control.waits.set n { s.control.waits.get n with starved := true, timer := none } } })) ∧
    (∀ n, (s.control.waits.get n).timer = none → exec (.starvationExpiry n) s = .next s)

/-! ## Station links -/

/-- ENABLE-LINK starts the hunt with a CALL, CALL goes out again on a hunting link, RESET-LINK sends a break, and its end
sends the first CALL. -/
def Obligations.Hunting : Prop :=
  ∀ (l : Link) (s : State), s.powered = true →
    let called (r : LinkRec) : State := { s with
      links := s.links.set l { r with callTimer := some 1000 }, wire := s.wire ++ [.frame l 0 1 [] (crc8 [0, 1])] }
    (∀ (tag n : Byte), (s.links.get l).state = .disabled → 1 ≤ n.toNat → n.toNat ≤ 15 →
      exec (.enableLink tag [u8 (linkCode l), n]) s = .next (reply 96 tag [0, u8 (s.links.get l).crcThreshold]
        (called { s.links.get l with state := .hunting, crcThreshold := n.toNat }))) ∧
    (∀ (tag n : Byte), (s.links.get l).state ≠ .disabled →
      exec (.enableLink tag [u8 (linkCode l), n]) s = .next (reply 96 tag [4] s)) ∧
    ((s.links.get l).state = .hunting → (s.links.get l).breakTimer = none →
      exec (.call l) s = .next (called (s.links.get l))) ∧
    ((s.links.get l).state = .hunting → (s.links.get l).breakTimer.isSome = true →
      exec (.breakEnd l) s = .next (called { s.links.get l with breakTimer := none })) ∧
    (∀ tag : Byte, ((s.links.get l).state = .fault ∨ (s.links.get l).state = .hunting) →
      exec (.resetLink tag [u8 (linkCode l)]) s = .next (reply 97 tag [0] { s with
        links := s.links.set l { s.links.get l with
          state := .hunting, cause := none, crcCount := 0, lateCount := 0, callTimer := none, breakTimer := some 20 }
        wire := s.wire ++ [.brk l] })) ∧
    (∀ tag : Byte, ((s.links.get l).state = .up ∨ (s.links.get l).state = .disabled) →
      exec (.resetLink tag [u8 (linkCode l)]) s = .next (reply 97 tag [4] s))

/-- DISABLE-LINK at rest clears the link's counts and its order; a link that was UP is disposed of by its owner.
LOCK-STATION-ID, TEST-LINK, SET-LIMITS and READ-STATION. -/
def Obligations.LinkCommands : Prop :=
  (∀ (tag : Byte) (l : Link) (s : State), s.powered = true →
     (s.control.cell ≠ .stopped → s.control.cell ≠ .held →
       exec (.disableLink tag [u8 (linkCode l)]) s = .next (reply 98 tag [4] s)) ∧
     ((s.control.cell = .stopped ∨ s.control.cell = .held) →
       let out := { s with links := s.links.set l { s.links.get l with
         state := .disabled, cause := none, outstanding := none, watchdog := none, crcCount := 0, lateCount := 0
         test := 0, callTimer := none, breakTimer := none } }
       exec (.disableLink tag [u8 (linkCode l)]) s = .next (reply 98 tag [0] (closeEvent s
         (if (s.links.get l).state = .up then ownerLost l (s.links.get l).outstanding.isSome out else out))))) ∧
  (∀ (tag : Byte) (l : Link) (s : State), s.powered = true →
     (∀ (p : Bool) (id : Text), id.length = 8 → (p = true → isText 8 id = true) →
       exec (.lockStationId tag (u8 (linkCode l) :: flag p :: id)) s =
         .next (reply 99 tag (0 :: optional 8 (s.links.get l).locked)
           { s with links := s.links.set l { s.links.get l with locked := if p then some id else none } })) ∧
     (∀ id : Text, id.length = 8 → isText 8 id = false →
       exec (.lockStationId tag (u8 (linkCode l) :: 1 :: id)) s = .next (reply 99 tag [3] s)) ∧
     (∀ n : Byte, 1 ≤ n.toNat → n.toNat ≤ 8 → exec (.testLink tag [u8 (linkCode l), n]) s =
       .next (reply 100 tag [0, u8 (s.links.get l).test]
         { s with links := s.links.set l { s.links.get l with test := n.toNat } })) ∧
     (∀ (k : OrderKind) (lo hi : Byte), 1 ≤ nat16 lo hi →
       (s.control.cell = .stopped → exec (.setLimits tag [k.code, lo, hi]) s =
         .next (reply 101 tag (0 :: u16 (s.limits.get k)) { s with limits := s.limits.set k (nat16 lo hi) })) ∧
       (s.control.cell ≠ .stopped → exec (.setLimits tag [k.code, lo, hi]) s = .next (reply 101 tag [4] s))) ∧
     exec (.readStation tag [u8 (linkCode l)]) s =
       .next (reply 102 tag (0 :: stationResults (s.links.get l) s.limits)
         { s with links := s.links.set l { s.links.get l with crcCount := 0, lateCount := 0 } }))

/-- HELLO on a hunting link brings it UP when its kind and identity pass, and faults it otherwise; on an UP link it is a
STATION-ERROR; on a faulted link it is late. The entry into UP of a table's link clears the table's FAULTED flag, which
is a selection change exactly when the flag was set on an OCCUPIED table whose slot is MOUNTED; the entry into UP of
another link does nothing more. -/
def Obligations.HelloBringsALinkUp : Prop :=
  (∀ (l : Link) (n kind : Byte) (id : Text) (s : State), s.powered = true → (s.links.get l).breakTimer = none →
    ((s.links.get l).state = .hunting →
      (kind ≠ stationKind l → exec (.hello l n kind id) s = .next (linkFault l .wrongKind s)) ∧
      (kind = stationKind l → (isText 8 id = false ∨ ∃ k, (s.links.get l).locked = some k ∧ k ≠ id) →
        exec (.hello l n kind id) s = .next (linkFault l .identity s)) ∧
      (kind = stationKind l → isText 8 id = true → (∀ k, (s.links.get l).locked = some k → k = id) →
        exec (.hello l n kind id) s = .next (closeEvent s (linkUp l { s with
        links := s.links.set l
          { s.links.get l with state := .up, identity := id, callTimer := none } })))) ∧
    ((s.links.get l).state = .up → exec (.hello l n kind id) s =
      .next (linkFault l .stationError { s with links := s.links.set l { s.links.get l with lastError := none } })) ∧
    ((s.links.get l).state = .fault → exec (.hello l n kind id) s =
      .next { s with
      links := s.links.set l
        { s.links.get l with lateCount := min 65535 ((s.links.get l).lateCount + 1) } }) ∧
    ((s.links.get l).state = .disabled → exec (.hello l n kind id) s = .next s)) ∧
  (∀ (k : Table) (s : State),
    let cleared := { s with tables := s.tables.set k { s.tables.get k with faulted := false } }
    let selects : Prop := (s.tables.get k).faulted = true ∧ (s.tables.get k).state = .occupied ∧
      ∃ i, (s.tables.get k).slot = some i ∧ (s.slots.get i).state = .mounted
    (selects → linkUp (tableLink k) s = { cleared with searchAgain :=
      ⟨s.searchAgain.one || s.control.waits.one.waiting, s.searchAgain.two || s.control.waits.two.waiting⟩ }) ∧
    (¬selects → linkUp (tableLink k) s = cleared)) ∧
  (∀ (l : Link) (s : State), l ≠ .ta → l ≠ .tb → linkUp l s = s)

/-- A bad or unfinished station frame is counted, and the count that becomes the threshold faults a HUNTING or UP link.
The bytes of a whole frame with its right check are read as the row of its kind by Table 11-8, two-byte fields least
significant byte first; one with a wrong check or of a kind that names no report is the row of a discard. -/
def Obligations.BadStationFramesAreCounted : Prop :=
  (∀ (l : Link) (n kind : Byte) (p : List Byte) (check : Byte) (s : State), s.powered = true →
    let count := min 255 ((s.links.get l).crcCount + 1)
    let counted := { s with links := s.links.set l { s.links.get l with crcCount := count } }
    let bad := crc8 (n :: kind :: p) ≠ check ∨ kind.toNat < 64 ∨ 79 < kind.toNat
    ((s.links.get l).state ≠ .disabled → (s.links.get l).breakTimer = none → bad →
      ((s.links.get l).state = .fault ∨ count ≠ (s.links.get l).crcThreshold →
        exec (.stationFrameDiscard l n kind p check) s = .next counted ∧ exec (.stationFrameTimeout l) s = .next counted) ∧
      ((s.links.get l).state ≠ .fault → count = (s.links.get l).crcThreshold →
        exec (.stationFrameDiscard l n kind p check) s = .next (linkFault l .crcLimit counted) ∧
        exec (.stationFrameTimeout l) s = .next (linkFault l .crcLimit counted))) ∧
    ((s.links.get l).state = .disabled ∨ (s.links.get l).breakTimer.isSome = true →
      exec (.stationFrameDiscard l n kind p check) s = .next s ∧ exec (.stationFrameTimeout l) s = .next s)) ∧
  (∀ (l : Link) (n : Byte),
    let reads (kind : Byte) (p : List Byte) (row : Instr) : Prop :=
      readStationFrame l (90 :: n :: kind :: p ++ [crc8 (n :: kind :: p)]) = some row ∧
      ∀ check, check ≠ crc8 (n :: kind :: p) →
        readStationFrame l (90 :: n :: kind :: p ++ [check]) = some (.stationFrameDiscard l n kind p check)
    (∀ station id, id.length = 8 → reads 64 (station :: id) (.hello l n station id)) ∧
    (∀ state id, id.length = 12 → reads 65 (state :: id) (.waferIn l n state id)) ∧
    reads 66 [] (.waferOut l n) ∧ reads 67 [] (.stepped l n) ∧ reads 68 [] (.picked l n) ∧ reads 69 [] (.pickFail l n) ∧
    reads 70 [] (.putDone l n) ∧ reads 71 [] (.dropped l n) ∧ reads 72 [] (.taken l n) ∧ reads 73 [] (.touched l n) ∧
    (∀ (dx dy rotation : BitVec 16) (vision : Byte),
      reads 74 (u16 dx.toNat ++ u16 dy.toNat ++ u16 rotation.toNat ++ [vision]) (.bonded l n dx dy rotation vision)) ∧
    reads 75 [] (if l = .pk then .purgedOnPk n else .purged l n) ∧
    (∀ (id : Text) (code count : Byte) (pitch : BitVec 16) (xouts : List (Byte × Byte)), id.length = 12 → xouts.length = 12 →
      reads 76 (id ++ [code] ++ u16 pitch.toNat ++ [count] ++ xouts.flatMap fun x => [x.1, x.2])
        (.arrived l n id code pitch count xouts)) ∧
    reads 77 [] (.ejected l n) ∧
    (∀ holds, reads 78 [holds] (match l with
      | .ta => .abortedTable .a n holds
      | .tb => .abortedTable .b n holds
      | .pk => .abortedPk n holds
      | .b1 => .abortedBonder .one n holds
      | .b2 => .abortedBonder .two n holds
      | .ix => .abortedIx n holds)) ∧
    (∀ code, reads 79 [code] (.stationError l n code)) ∧
    (∀ kind p check, kind.toNat < 64 ∨ 79 < kind.toNat →
      readStationFrame l (90 :: n :: kind :: p ++ [check]) = some (.stationFrameDiscard l n kind p check)))

/-- STATION-ERROR against the outstanding order, and the watchdog's expiry, fault the link. A report of the
outstanding order's number that does not answer it, does not fit the owner's state, or carries a parameter out of its
range, faults the link: each report, on every link. A link's entry into FAULT: it is in FAULT with its cause and no order, and STATION-FAULT
is pending with the link, the cause, the kind of the order ended and the last station error. The entry is the end of the
order, the owner's disposition (each owner's, by the state it holds), LANE-OUT for a bonder link, what the owners and
production control do, STATION-FAULT, and new work (the order of these within the event is the model's choice,
notes/assumptions/22.md). A RUNNING cell is held by the loss of PK or IX. -/
def Obligations.FaultsOfALink : Prop :=
  (∀ (l : Link) (s : State), s.powered = true →
     (∀ n code k, s.awaits l k n → exec (.stationError l n code) s =
       .next (linkFault l .stationError { s with links := s.links.set l { s.links.get l with lastError := some code } })) ∧
     ((s.links.get l).watchdog.isSome = true → exec (.watchdogExpiry l) s = .next (linkFault l .timeout s)) ∧
     ((s.links.get l).watchdog = none → exec (.watchdogExpiry l) s = .next s)) ∧
  (∀ (s : State), s.powered = true →
     let error (l : Link) : Host.Outcome State Fault Refusal := .next (linkFault l .stationError
       { s with links := s.links.set l { s.links.get l with lastError := none } })
     (∀ k n, s.awaits .pk k n →
       (k ≠ .pick ∨ s.picker.state ≠ .picking → exec (.picked .pk n) s = error .pk ∧ exec (.pickFail .pk n) s = error .pk) ∧
       (k ≠ .put ∨ s.picker.state ≠ .putting → exec (.putDone .pk n) s = error .pk ∧ exec (.dropped .pk n) s = error .pk) ∧
       (k ≠ .purge ∨ s.picker.state ≠ .purging → exec (.purgedOnPk n) s = error .pk ∧ exec (.purged .pk n) s = error .pk)) ∧
     (∀ (m : Lane) k n, s.awaits (bonderLink m) k n →
       (k ≠ .take ∨ (s.lanes.get m).collet ≠ .taking → exec (.taken (bonderLink m) n) s = error (bonderLink m)) ∧
       (k ≠ .bond ∨ (s.lanes.get m).collet ≠ .bonding → exec (.touched (bonderLink m) n) s = error (bonderLink m)) ∧
       (k ≠ .bond ∨ (s.lanes.get m).collet ≠ .dwell →
         ∀ dx dy rot v, exec (.bonded (bonderLink m) n dx dy rot v) s = error (bonderLink m)) ∧
       (k ≠ .purge ∨ (s.lanes.get m).collet ≠ .purging → exec (.purged (bonderLink m) n) s = error (bonderLink m)))) ∧
  (∀ (s : State), s.powered = true →
     let error (l : Link) : Host.Outcome State Fault Refusal := .next (linkFault l .stationError
       { s with links := s.links.set l { s.links.get l with lastError := none } })
     (∀ l k n, s.awaits l k n →
       (∀ state id, (k ≠ .loadWafer ∨ 2 ≤ state.toNat ∨ state = 0 ∧ isText 12 id = false) →
         exec (.waferIn l n state id) s = error l) ∧
       (k ≠ .unloadWafer → exec (.waferOut l n) s = error l) ∧ (k ≠ .step → exec (.stepped l n) s = error l) ∧
       (k ≠ .pick → exec (.picked l n) s = error l ∧ exec (.pickFail l n) s = error l) ∧
       (k ≠ .put → exec (.putDone l n) s = error l ∧ exec (.dropped l n) s = error l) ∧
       (k ≠ .take → exec (.taken l n) s = error l) ∧ (k ≠ .bond → exec (.touched l n) s = error l) ∧
       (∀ dx dy rot v, (k ≠ .bond ∨ 2 ≤ v.toNat) → exec (.bonded l n dx dy rot v) s = error l) ∧
       (k ≠ .purge → exec (.purged l n) s = error l) ∧
       (∀ id code pitch count xouts, (k ≠ .loadStrip ∨ isText 12 id = false ∨ 12 < count.toNat) →
         exec (.arrived l n id code pitch count xouts) s = error l) ∧
       (k ≠ .ejectStrip → exec (.ejected l n) s = error l)) ∧
     (∀ (m : Table) k n holds, s.awaits (tableLink m) k n → (k ≠ .abort ∨ 2 ≤ holds.toNat) →
       exec (.abortedTable m n holds) s = error (tableLink m)) ∧
     (∀ k n holds, s.awaits .pk k n → (k ≠ .abort ∨ s.picker.state ≠ .aborting ∨ 2 ≤ holds.toNat) →
       exec (.abortedPk n holds) s = error .pk) ∧
     (∀ (m : Lane) k n holds, s.awaits (bonderLink m) k n →
       (k ≠ .abort ∨ (s.lanes.get m).collet ≠ .aborting ∨ 2 ≤ holds.toNat) →
       exec (.abortedBonder m n holds) s = error (bonderLink m)) ∧
     (∀ k n holds, s.awaits .ix k n → k ≠ .abort → exec (.abortedIx n holds) s = error .ix)) ∧
  (∀ (l : Link) (c : FaultCause) (s : State),
     ((linkFault l c s).links.get l).state = .fault ∧ ((linkFault l c s).links.get l).cause = some c ∧
     ((linkFault l c s).conds.get .stationFault).detail =
       some (.stationFault l c ((s.links.get l).outstanding.map (·.kind)) (s.links.get l).lastError) ∧
     ((s.tables.a.slot = none ∨ s.tables.a.slot ≠ s.tables.b.slot) →
       ((linkFault l c s).links.get l).outstanding = none ∧ ((linkFault l c s).links.get l).watchdog = none) ∧
     (let out := { s with links := s.links.set l { s.links.get l with
        state := .fault, cause := some c, outstanding := none, watchdog := none, callTimer := none, breakTimer := none } }
      let lost := ownerLost l (s.links.get l).outstanding.isSome out
      let told := match l with
        | .b1 => raise (.laneOut .one .faulted) lost
        | .b2 => raise (.laneOut .two .faulted) lost
        | .ta | .tb | .pk | .ix => lost
      linkFault l c s = newWork (raise
        (.stationFault l c ((s.links.get l).outstanding.map (·.kind)) (s.links.get l).lastError) (control s (owners told)))) ∧
     ((l = .pk ∨ l = .ix) → s.control.cell = .running → (s.links.get l).state = .up →
       (linkFault l c s).control.holdCause = some .link ∧
       ((linkFault l c s).control.cell = .holding ∨ (linkFault l c s).control.cell = .held))) ∧
  (∀ (k : Table) (ended : Bool) (s : State),
     let flagged := { s with tables := s.tables.set k { s.tables.get k with faulted := true } }
     ((s.tables.get k).state = .empty → ownerLost (tableLink k) ended s = flagged) ∧
     (∀ i, ((s.tables.get k).state = .loading ∨ (s.tables.get k).state = .unloading) → (s.tables.get k).slot = some i →
       ownerLost (tableLink k) ended s = raise (.mountDone k (some i) .tableFault (s.tables.get k).readId) { s with
         slots := s.slots.set i { s.slots.get i with state := .ready }
         tables := s.tables.set k { s.tables.get k with
           faulted := true, state := .empty, slot := none, unloadWanted := false, ending := none } }) ∧
     ((s.tables.get k).state = .occupied →
       (ended = false ∨ s.picker.state ≠ .stepping → ownerLost (tableLink k) ended s = flagged) ∧
       (ended = true → s.picker.state = .stepping →
         (∀ t, s.tokenAt .picker = some t → ownerLost (tableLink k) ended s = setPicker .idle (releaseToken t flagged)) ∧
         (s.tokenAt .picker = none → ownerLost (tableLink k) ended s = setPicker .idle flagged)))) ∧
  (∀ (ended : Bool) (t : Token) (s : State),
     (s.picker.state = .idle → ownerLost .pk ended s = s) ∧
     (s.picker.state = .stepping → s.tokenAt .picker = some t → ownerLost .pk ended s = releaseToken t s) ∧
     (s.picker.state = .stepping → s.tokenAt .picker = none → ownerLost .pk ended s = s) ∧
     (s.picker.state ≠ .idle → s.picker.state ≠ .stepping → s.tokenAt .picker = some t →
       ownerLost .pk ended s = setPicker .idle ((settleDie t .unknown none none none .empty (setSite t .taken s)).updLane t.lane
         fun r => if r.nest = .receiving then { r with nest := .blocked } else r)) ∧
     (s.strip.state = .loading → ownerLost .ix true s = { s with strip := { s.strip with state := .none } }) ∧
     (s.strip.state = .ejecting → ownerLost .ix true s = { s with strip := { s.strip with state := .active, done := true } }) ∧
     ownerLost .ix false s = s) ∧
  (∀ (n : Lane) (ended : Bool) (s : State), (s.links.get (bonderLink n)).state ≠ .up →
     let r : LaneRec := s.lanes.get n
     let die (p : Place) (st : PosState) (x : State) : State := match x.tokenAt p with
       | none => x
       | some t => settleDie t .unknown (some n) r.bond none st x
     let closed := { s with monitors := s.monitors.set n { s.monitors.get n with state := .idle } }
     let origin : Option AbortOrigin := if r.collet = .aborting then r.abort else match r.collet with
       | .taking => some .taking
       | .bonding => some .bonding
       | .dwell => some .dwell
       | .idle | .purging | .aborting => none
     let head : State := match origin with
       | some .taking => (die (.nest n) .empty s).updLane n fun x => { x with nest := .blocked }
       | some .bonding => die (.collet n) .uncertain s
       | some .dwell => die (.collet n) .uncertain closed
       | none => if r.collet = .purging ∧ r.purge = some .collet then die (.collet n) .empty s else s
     let nested := head.updLane n fun (x : LaneRec) => { x with
       collet := .idle, bond := none, purge := none, abort := none, settleTimer := none
       nest := if x.nest = .settling ∨ x.nest = .ready then .blocked else x.nest }
     ownerLost (bonderLink n) ended s =
       if s.control.cell = .stopping then
         match nested.tokenAt (.nest n) with
         | none => nested
         | some t => (settleDie t .unknown (some n) none none .empty nested).updLane n fun x =>
             { x with nest := .blocked, settleTimer := none }
       else nested)

/-- A report whose number is not that of the outstanding order is late: counted, and nothing else changes. -/
def Obligations.LateReportsAreCounted : Prop :=
  ∀ (c : Instr) (l : Link) (n : Byte) (s : State), s.powered = true → numbered c = some (l, n) →
    (s.links.get l).state ≠ .disabled → (s.links.get l).breakTimer = none →
    (∀ o, (s.links.get l).outstanding = some o → o.number ≠ n) →
    exec c s = .next { s with
    links := s.links.set l
      { s.links.get l with lateCount := min 65535 ((s.links.get l).lateCount + 1) } }

/-! ## What nothing moves, and what every step keeps -/

/-- A step the part makes by itself, and a timer's expiry, leave every setting as it was. A station's report other than
TAKEN, TOUCHED, BONDED and ARRIVED, a bad frame, a watchdog's expiry, a CALL and the end of a break change no setting
but the standing of their own link. -/
def Obligations.SettingsAreKept : Prop :=
  (∀ (c : Instr) (s t : State), ownStep c = true → exec c s = .next t → t.settings = s.settings) ∧
  (∀ (c : Instr) (l : Link) (s t : State), plainReport c = some l → exec c s = .next t →
     s.settings.butLink t.settings l)

/-- In a STOPPED cell with no strip ACTIVE, no unload wanted and no nest BLOCKED, nothing comes about by itself after an
event that leaves no lane waiting. -/
def Obligations.NothingComesAboutAtRest : Prop :=
  ∀ s0 s : State, s.control.cell = .stopped → s.strip.state ≠ .active → s.tables.a.unloadWanted = false →
    s.tables.b.unloadWanted = false → s.lanes.one.nest ≠ .blocked → s.lanes.two.nest ≠ .blocked →
    s.control.waits.one.waiting = false → s.control.waits.two.waiting = false → closeEvent s0 s = s

/-- Outside STOPPING, what comes about by itself after an event writes no placement record, ends no token and moves no
force monitor. -/
def Obligations.ConsequencesWriteNoRecord : Prop :=
  ∀ s0 s : State, s.control.cell ≠ .stopping →
    (closeEvent s0 s).log.records = s.log.records ∧ (closeEvent s0 s).log.serial = s.log.serial ∧
    (closeEvent s0 s).log.overwritten = s.log.overwritten ∧ (closeEvent s0 s).monitors = s.monitors ∧
    ∀ t ∈ s.tokens, t ∈ (closeEvent s0 s).tokens

/-- Every step keeps the class tables in range: 64 entries a bank, entry 63 of each bank REJECT. -/
def Obligations.StepKeepsTheClassTables : Prop :=
  ∀ s t : State, s.classes.inRange → step s = .next t → t.classes.inRange

/-- Every step keeps the link records and the log in range: the watchdog of a link runs exactly while an order is
outstanding, the counts stop at their limits, and the log never holds more than 1,024 records nor 1,024 reservations. -/
def Obligations.StepKeepsLinksAndLog : Prop :=
  ∀ s t : State, s.tracksInRange → step s = .next t → t.tracksInRange

/-- Every step keeps the lanes' settings and counts and the monitors' figures in the ranges of Tables 6-1 and 7-1.
Every step keeps the receive queue at four frames at most and the discard count at 65,535 at most. -/
def Obligations.StepKeepsLanesMonitorsAndCommandLink : Prop :=
  (∀ s t : State, (∀ n, (s.lanes.get n).inRange ∧ (s.monitors.get n).inRange) → step s = .next t →
     ∀ n, (t.lanes.get n).inRange ∧ (t.monitors.get n).inRange) ∧
  (∀ s t : State, s.host.inRange → step s = .next t → t.host.inRange)

/-- The ranges that every step keeps hold after reset. -/
def Obligations.ResetIsInRange : Prop :=
  State.reset.classes.inRange ∧ (∀ n, (State.reset.lanes.get n).inRange ∧ (State.reset.monitors.get n).inRange) ∧
  State.reset.tracksInRange ∧ State.reset.host.inRange

end Statements
end

