-- ==== Sys2Proof/Laws/State.lean ====
section
/-! SUPPORT. What an update of one record does to each field of the state. -/

namespace Sys2Proof.Machine

@[simp] theorem PerLane.get_set_same {α : Type} (t : PerLane α) (n : Lane) (v : α) : (t.set n v).get n = v := by
  cases n <;> rfl

theorem PerLane.get_set {α : Type} (t : PerLane α) (n m : Lane) (v : α) :
    (t.set n v).get m = if n = m then v else t.get m := by
  cases n <;> cases m <;> rfl

@[simp] theorem PerLane.set_get_self {α : Type} (t : PerLane α) (n : Lane) : t.set n (t.get n) = t := by
  cases n <;> rfl

@[simp] theorem PerTable.get_set_same {α : Type} (t : PerTable α) (n : Table) (v : α) : (t.set n v).get n = v := by
  cases n <;> rfl

theorem PerTable.get_set {α : Type} (t : PerTable α) (n m : Table) (v : α) :
    (t.set n v).get m = if n = m then v else t.get m := by
  cases n <;> cases m <;> rfl

@[simp] theorem PerTable.set_get_self {α : Type} (t : PerTable α) (n : Table) : t.set n (t.get n) = t := by
  cases n <;> rfl

@[simp] theorem PerQuad.get_set_same {α : Type} (t : PerQuad α) (n : Quad) (v : α) : (t.set n v).get n = v := by
  cases n <;> rfl

theorem PerQuad.get_set {α : Type} (t : PerQuad α) (n m : Quad) (v : α) :
    (t.set n v).get m = if n = m then v else t.get m := by
  cases n <;> cases m <;> rfl

@[simp] theorem PerQuad.set_get_self {α : Type} (t : PerQuad α) (n : Quad) : t.set n (t.get n) = t := by
  cases n <;> rfl

@[simp] theorem PerLink.get_set_same {α : Type} (t : PerLink α) (n : Link) (v : α) : (t.set n v).get n = v := by
  cases n <;> rfl

theorem PerLink.get_set {α : Type} (t : PerLink α) (n m : Link) (v : α) :
    (t.set n v).get m = if n = m then v else t.get m := by
  cases n <;> cases m <;> rfl

@[simp] theorem PerLink.set_get_self {α : Type} (t : PerLink α) (n : Link) : t.set n (t.get n) = t := by
  cases n <;> rfl

@[simp] theorem Limits.get_set_same (t : Limits) (n : OrderKind) (v : Nat) : (t.set n v).get n = v := by
  cases n <;> rfl

theorem Limits.get_set (t : Limits) (n m : OrderKind) (v : Nat) : (t.set n v).get m = if n = m then v else t.get m := by
  cases n <;> cases m <;> rfl

@[simp] theorem Conds.get_set_same (t : Conds) (n : CondId) (v : Cond) : (t.set n v).get n = v := by
  cases n <;> rfl

theorem Conds.get_set (t : Conds) (n m : CondId) (v : Cond) : (t.set n v).get m = if n = m then v else t.get m := by
  cases n <;> cases m <;> rfl

/-! updSlot -/

@[simp] theorem updSlot_pending (n : SlotId) (f : Slot → Slot) (s : State) : (s.updSlot n f).pending = s.pending := rfl
@[simp] theorem updSlot_powered (n : SlotId) (f : Slot → Slot) (s : State) : (s.updSlot n f).powered = s.powered := rfl
@[simp] theorem updSlot_pins (n : SlotId) (f : Slot → Slot) (s : State) : (s.updSlot n f).pins = s.pins := rfl
@[simp] theorem updSlot_classes (n : SlotId) (f : Slot → Slot) (s : State) : (s.updSlot n f).classes = s.classes := rfl
@[simp] theorem updSlot_recipes (n : SlotId) (f : Slot → Slot) (s : State) : (s.updSlot n f).recipes = s.recipes := rfl
@[simp] theorem updSlot_tables (n : SlotId) (f : Slot → Slot) (s : State) : (s.updSlot n f).tables = s.tables := rfl
@[simp] theorem updSlot_searchAgain (n : SlotId) (f : Slot → Slot) (s : State) : (s.updSlot n f).searchAgain = s.searchAgain := rfl
@[simp] theorem updSlot_stripTypes (n : SlotId) (f : Slot → Slot) (s : State) : (s.updSlot n f).stripTypes = s.stripTypes := rfl
@[simp] theorem updSlot_stripLock (n : SlotId) (f : Slot → Slot) (s : State) : (s.updSlot n f).stripLock = s.stripLock := rfl
@[simp] theorem updSlot_strip (n : SlotId) (f : Slot → Slot) (s : State) : (s.updSlot n f).strip = s.strip := rfl
@[simp] theorem updSlot_picker (n : SlotId) (f : Slot → Slot) (s : State) : (s.updSlot n f).picker = s.picker := rfl
@[simp] theorem updSlot_tokens (n : SlotId) (f : Slot → Slot) (s : State) : (s.updSlot n f).tokens = s.tokens := rfl
@[simp] theorem updSlot_lanes (n : SlotId) (f : Slot → Slot) (s : State) : (s.updSlot n f).lanes = s.lanes := rfl
@[simp] theorem updSlot_monitors (n : SlotId) (f : Slot → Slot) (s : State) : (s.updSlot n f).monitors = s.monitors := rfl
@[simp] theorem updSlot_log (n : SlotId) (f : Slot → Slot) (s : State) : (s.updSlot n f).log = s.log := rfl
@[simp] theorem updSlot_control (n : SlotId) (f : Slot → Slot) (s : State) : (s.updSlot n f).control = s.control := rfl
@[simp] theorem updSlot_links (n : SlotId) (f : Slot → Slot) (s : State) : (s.updSlot n f).links = s.links := rfl
@[simp] theorem updSlot_limits (n : SlotId) (f : Slot → Slot) (s : State) : (s.updSlot n f).limits = s.limits := rfl
@[simp] theorem updSlot_wire (n : SlotId) (f : Slot → Slot) (s : State) : (s.updSlot n f).wire = s.wire := rfl
@[simp] theorem updSlot_host (n : SlotId) (f : Slot → Slot) (s : State) : (s.updSlot n f).host = s.host := rfl
@[simp] theorem updSlot_conds (n : SlotId) (f : Slot → Slot) (s : State) : (s.updSlot n f).conds = s.conds := rfl
theorem updSlot_get (n m : SlotId) (f : Slot → Slot) (s : State) :
    (s.updSlot n f).slots.get m = if n = m then f (s.slots.get n) else s.slots.get m := by
  cases n <;> cases m <;> rfl

/-! updTable -/

@[simp] theorem updTable_pending (n : Table) (f : TableRec → TableRec) (s : State) : (s.updTable n f).pending = s.pending := rfl
@[simp] theorem updTable_powered (n : Table) (f : TableRec → TableRec) (s : State) : (s.updTable n f).powered = s.powered := rfl
@[simp] theorem updTable_pins (n : Table) (f : TableRec → TableRec) (s : State) : (s.updTable n f).pins = s.pins := rfl
@[simp] theorem updTable_slots (n : Table) (f : TableRec → TableRec) (s : State) : (s.updTable n f).slots = s.slots := rfl
@[simp] theorem updTable_classes (n : Table) (f : TableRec → TableRec) (s : State) : (s.updTable n f).classes = s.classes := rfl
@[simp] theorem updTable_recipes (n : Table) (f : TableRec → TableRec) (s : State) : (s.updTable n f).recipes = s.recipes := rfl
@[simp] theorem updTable_searchAgain (n : Table) (f : TableRec → TableRec) (s : State) : (s.updTable n f).searchAgain = s.searchAgain := rfl
@[simp] theorem updTable_stripTypes (n : Table) (f : TableRec → TableRec) (s : State) : (s.updTable n f).stripTypes = s.stripTypes := rfl
@[simp] theorem updTable_stripLock (n : Table) (f : TableRec → TableRec) (s : State) : (s.updTable n f).stripLock = s.stripLock := rfl
@[simp] theorem updTable_strip (n : Table) (f : TableRec → TableRec) (s : State) : (s.updTable n f).strip = s.strip := rfl
@[simp] theorem updTable_picker (n : Table) (f : TableRec → TableRec) (s : State) : (s.updTable n f).picker = s.picker := rfl
@[simp] theorem updTable_tokens (n : Table) (f : TableRec → TableRec) (s : State) : (s.updTable n f).tokens = s.tokens := rfl
@[simp] theorem updTable_lanes (n : Table) (f : TableRec → TableRec) (s : State) : (s.updTable n f).lanes = s.lanes := rfl
@[simp] theorem updTable_monitors (n : Table) (f : TableRec → TableRec) (s : State) : (s.updTable n f).monitors = s.monitors := rfl
@[simp] theorem updTable_log (n : Table) (f : TableRec → TableRec) (s : State) : (s.updTable n f).log = s.log := rfl
@[simp] theorem updTable_control (n : Table) (f : TableRec → TableRec) (s : State) : (s.updTable n f).control = s.control := rfl
@[simp] theorem updTable_links (n : Table) (f : TableRec → TableRec) (s : State) : (s.updTable n f).links = s.links := rfl
@[simp] theorem updTable_limits (n : Table) (f : TableRec → TableRec) (s : State) : (s.updTable n f).limits = s.limits := rfl
@[simp] theorem updTable_wire (n : Table) (f : TableRec → TableRec) (s : State) : (s.updTable n f).wire = s.wire := rfl
@[simp] theorem updTable_host (n : Table) (f : TableRec → TableRec) (s : State) : (s.updTable n f).host = s.host := rfl
@[simp] theorem updTable_conds (n : Table) (f : TableRec → TableRec) (s : State) : (s.updTable n f).conds = s.conds := rfl
theorem updTable_get (n m : Table) (f : TableRec → TableRec) (s : State) :
    (s.updTable n f).tables.get m = if n = m then f (s.tables.get n) else s.tables.get m := by
  cases n <;> cases m <;> rfl

/-! updLane -/

@[simp] theorem updLane_pending (n : Lane) (f : LaneRec → LaneRec) (s : State) : (s.updLane n f).pending = s.pending := rfl
@[simp] theorem updLane_powered (n : Lane) (f : LaneRec → LaneRec) (s : State) : (s.updLane n f).powered = s.powered := rfl
@[simp] theorem updLane_pins (n : Lane) (f : LaneRec → LaneRec) (s : State) : (s.updLane n f).pins = s.pins := rfl
@[simp] theorem updLane_slots (n : Lane) (f : LaneRec → LaneRec) (s : State) : (s.updLane n f).slots = s.slots := rfl
@[simp] theorem updLane_classes (n : Lane) (f : LaneRec → LaneRec) (s : State) : (s.updLane n f).classes = s.classes := rfl
@[simp] theorem updLane_recipes (n : Lane) (f : LaneRec → LaneRec) (s : State) : (s.updLane n f).recipes = s.recipes := rfl
@[simp] theorem updLane_tables (n : Lane) (f : LaneRec → LaneRec) (s : State) : (s.updLane n f).tables = s.tables := rfl
@[simp] theorem updLane_searchAgain (n : Lane) (f : LaneRec → LaneRec) (s : State) : (s.updLane n f).searchAgain = s.searchAgain := rfl
@[simp] theorem updLane_stripTypes (n : Lane) (f : LaneRec → LaneRec) (s : State) : (s.updLane n f).stripTypes = s.stripTypes := rfl
@[simp] theorem updLane_stripLock (n : Lane) (f : LaneRec → LaneRec) (s : State) : (s.updLane n f).stripLock = s.stripLock := rfl
@[simp] theorem updLane_strip (n : Lane) (f : LaneRec → LaneRec) (s : State) : (s.updLane n f).strip = s.strip := rfl
@[simp] theorem updLane_picker (n : Lane) (f : LaneRec → LaneRec) (s : State) : (s.updLane n f).picker = s.picker := rfl
@[simp] theorem updLane_tokens (n : Lane) (f : LaneRec → LaneRec) (s : State) : (s.updLane n f).tokens = s.tokens := rfl
@[simp] theorem updLane_monitors (n : Lane) (f : LaneRec → LaneRec) (s : State) : (s.updLane n f).monitors = s.monitors := rfl
@[simp] theorem updLane_log (n : Lane) (f : LaneRec → LaneRec) (s : State) : (s.updLane n f).log = s.log := rfl
@[simp] theorem updLane_control (n : Lane) (f : LaneRec → LaneRec) (s : State) : (s.updLane n f).control = s.control := rfl
@[simp] theorem updLane_links (n : Lane) (f : LaneRec → LaneRec) (s : State) : (s.updLane n f).links = s.links := rfl
@[simp] theorem updLane_limits (n : Lane) (f : LaneRec → LaneRec) (s : State) : (s.updLane n f).limits = s.limits := rfl
@[simp] theorem updLane_wire (n : Lane) (f : LaneRec → LaneRec) (s : State) : (s.updLane n f).wire = s.wire := rfl
@[simp] theorem updLane_host (n : Lane) (f : LaneRec → LaneRec) (s : State) : (s.updLane n f).host = s.host := rfl
@[simp] theorem updLane_conds (n : Lane) (f : LaneRec → LaneRec) (s : State) : (s.updLane n f).conds = s.conds := rfl
theorem updLane_get (n m : Lane) (f : LaneRec → LaneRec) (s : State) :
    (s.updLane n f).lanes.get m = if n = m then f (s.lanes.get n) else s.lanes.get m := by
  cases n <;> cases m <;> rfl

/-! updMonitor -/

@[simp] theorem updMonitor_pending (n : Lane) (f : Monitor → Monitor) (s : State) : (s.updMonitor n f).pending = s.pending := rfl
@[simp] theorem updMonitor_powered (n : Lane) (f : Monitor → Monitor) (s : State) : (s.updMonitor n f).powered = s.powered := rfl
@[simp] theorem updMonitor_pins (n : Lane) (f : Monitor → Monitor) (s : State) : (s.updMonitor n f).pins = s.pins := rfl
@[simp] theorem updMonitor_slots (n : Lane) (f : Monitor → Monitor) (s : State) : (s.updMonitor n f).slots = s.slots := rfl
@[simp] theorem updMonitor_classes (n : Lane) (f : Monitor → Monitor) (s : State) : (s.updMonitor n f).classes = s.classes := rfl
@[simp] theorem updMonitor_recipes (n : Lane) (f : Monitor → Monitor) (s : State) : (s.updMonitor n f).recipes = s.recipes := rfl
@[simp] theorem updMonitor_tables (n : Lane) (f : Monitor → Monitor) (s : State) : (s.updMonitor n f).tables = s.tables := rfl
@[simp] theorem updMonitor_searchAgain (n : Lane) (f : Monitor → Monitor) (s : State) : (s.updMonitor n f).searchAgain = s.searchAgain := rfl
@[simp] theorem updMonitor_stripTypes (n : Lane) (f : Monitor → Monitor) (s : State) : (s.updMonitor n f).stripTypes = s.stripTypes := rfl
@[simp] theorem updMonitor_stripLock (n : Lane) (f : Monitor → Monitor) (s : State) : (s.updMonitor n f).stripLock = s.stripLock := rfl
@[simp] theorem updMonitor_strip (n : Lane) (f : Monitor → Monitor) (s : State) : (s.updMonitor n f).strip = s.strip := rfl
@[simp] theorem updMonitor_picker (n : Lane) (f : Monitor → Monitor) (s : State) : (s.updMonitor n f).picker = s.picker := rfl
@[simp] theorem updMonitor_tokens (n : Lane) (f : Monitor → Monitor) (s : State) : (s.updMonitor n f).tokens = s.tokens := rfl
@[simp] theorem updMonitor_lanes (n : Lane) (f : Monitor → Monitor) (s : State) : (s.updMonitor n f).lanes = s.lanes := rfl
@[simp] theorem updMonitor_log (n : Lane) (f : Monitor → Monitor) (s : State) : (s.updMonitor n f).log = s.log := rfl
@[simp] theorem updMonitor_control (n : Lane) (f : Monitor → Monitor) (s : State) : (s.updMonitor n f).control = s.control := rfl
@[simp] theorem updMonitor_links (n : Lane) (f : Monitor → Monitor) (s : State) : (s.updMonitor n f).links = s.links := rfl
@[simp] theorem updMonitor_limits (n : Lane) (f : Monitor → Monitor) (s : State) : (s.updMonitor n f).limits = s.limits := rfl
@[simp] theorem updMonitor_wire (n : Lane) (f : Monitor → Monitor) (s : State) : (s.updMonitor n f).wire = s.wire := rfl
@[simp] theorem updMonitor_host (n : Lane) (f : Monitor → Monitor) (s : State) : (s.updMonitor n f).host = s.host := rfl
@[simp] theorem updMonitor_conds (n : Lane) (f : Monitor → Monitor) (s : State) : (s.updMonitor n f).conds = s.conds := rfl
theorem updMonitor_get (n m : Lane) (f : Monitor → Monitor) (s : State) :
    (s.updMonitor n f).monitors.get m = if n = m then f (s.monitors.get n) else s.monitors.get m := by
  cases n <;> cases m <;> rfl

/-! updWait -/

@[simp] theorem updWait_pending (n : Lane) (f : Wait → Wait) (s : State) : (s.updWait n f).pending = s.pending := rfl
@[simp] theorem updWait_powered (n : Lane) (f : Wait → Wait) (s : State) : (s.updWait n f).powered = s.powered := rfl
@[simp] theorem updWait_pins (n : Lane) (f : Wait → Wait) (s : State) : (s.updWait n f).pins = s.pins := rfl
@[simp] theorem updWait_slots (n : Lane) (f : Wait → Wait) (s : State) : (s.updWait n f).slots = s.slots := rfl
@[simp] theorem updWait_classes (n : Lane) (f : Wait → Wait) (s : State) : (s.updWait n f).classes = s.classes := rfl
@[simp] theorem updWait_recipes (n : Lane) (f : Wait → Wait) (s : State) : (s.updWait n f).recipes = s.recipes := rfl
@[simp] theorem updWait_tables (n : Lane) (f : Wait → Wait) (s : State) : (s.updWait n f).tables = s.tables := rfl
@[simp] theorem updWait_searchAgain (n : Lane) (f : Wait → Wait) (s : State) : (s.updWait n f).searchAgain = s.searchAgain := rfl
@[simp] theorem updWait_stripTypes (n : Lane) (f : Wait → Wait) (s : State) : (s.updWait n f).stripTypes = s.stripTypes := rfl
@[simp] theorem updWait_stripLock (n : Lane) (f : Wait → Wait) (s : State) : (s.updWait n f).stripLock = s.stripLock := rfl
@[simp] theorem updWait_strip (n : Lane) (f : Wait → Wait) (s : State) : (s.updWait n f).strip = s.strip := rfl
@[simp] theorem updWait_picker (n : Lane) (f : Wait → Wait) (s : State) : (s.updWait n f).picker = s.picker := rfl
@[simp] theorem updWait_tokens (n : Lane) (f : Wait → Wait) (s : State) : (s.updWait n f).tokens = s.tokens := rfl
@[simp] theorem updWait_lanes (n : Lane) (f : Wait → Wait) (s : State) : (s.updWait n f).lanes = s.lanes := rfl
@[simp] theorem updWait_monitors (n : Lane) (f : Wait → Wait) (s : State) : (s.updWait n f).monitors = s.monitors := rfl
@[simp] theorem updWait_log (n : Lane) (f : Wait → Wait) (s : State) : (s.updWait n f).log = s.log := rfl
@[simp] theorem updWait_links (n : Lane) (f : Wait → Wait) (s : State) : (s.updWait n f).links = s.links := rfl
@[simp] theorem updWait_limits (n : Lane) (f : Wait → Wait) (s : State) : (s.updWait n f).limits = s.limits := rfl
@[simp] theorem updWait_wire (n : Lane) (f : Wait → Wait) (s : State) : (s.updWait n f).wire = s.wire := rfl
@[simp] theorem updWait_host (n : Lane) (f : Wait → Wait) (s : State) : (s.updWait n f).host = s.host := rfl
@[simp] theorem updWait_conds (n : Lane) (f : Wait → Wait) (s : State) : (s.updWait n f).conds = s.conds := rfl
@[simp] theorem updWait_cell (n : Lane) (f : Wait → Wait) (s : State) :
    (s.updWait n f).control.cell = s.control.cell := rfl
@[simp] theorem updWait_holdCause (n : Lane) (f : Wait → Wait) (s : State) :
    (s.updWait n f).control.holdCause = s.control.holdCause := rfl
@[simp] theorem updWait_gating (n : Lane) (f : Wait → Wait) (s : State) :
    (s.updWait n f).control.gating = s.control.gating := rfl
@[simp] theorem updWait_timeout (n : Lane) (f : Wait → Wait) (s : State) :
    (s.updWait n f).control.timeout = s.control.timeout := rfl
theorem updWait_get (n m : Lane) (f : Wait → Wait) (s : State) :
    (s.updWait n f).control.waits.get m = if n = m then f (s.control.waits.get n) else s.control.waits.get m := by
  cases n <;> cases m <;> rfl

/-! updLink -/

@[simp] theorem updLink_pending (n : Link) (f : LinkRec → LinkRec) (s : State) : (s.updLink n f).pending = s.pending := rfl
@[simp] theorem updLink_powered (n : Link) (f : LinkRec → LinkRec) (s : State) : (s.updLink n f).powered = s.powered := rfl
@[simp] theorem updLink_pins (n : Link) (f : LinkRec → LinkRec) (s : State) : (s.updLink n f).pins = s.pins := rfl
@[simp] theorem updLink_slots (n : Link) (f : LinkRec → LinkRec) (s : State) : (s.updLink n f).slots = s.slots := rfl
@[simp] theorem updLink_classes (n : Link) (f : LinkRec → LinkRec) (s : State) : (s.updLink n f).classes = s.classes := rfl
@[simp] theorem updLink_recipes (n : Link) (f : LinkRec → LinkRec) (s : State) : (s.updLink n f).recipes = s.recipes := rfl
@[simp] theorem updLink_tables (n : Link) (f : LinkRec → LinkRec) (s : State) : (s.updLink n f).tables = s.tables := rfl
@[simp] theorem updLink_searchAgain (n : Link) (f : LinkRec → LinkRec) (s : State) : (s.updLink n f).searchAgain = s.searchAgain := rfl
@[simp] theorem updLink_stripTypes (n : Link) (f : LinkRec → LinkRec) (s : State) : (s.updLink n f).stripTypes = s.stripTypes := rfl
@[simp] theorem updLink_stripLock (n : Link) (f : LinkRec → LinkRec) (s : State) : (s.updLink n f).stripLock = s.stripLock := rfl
@[simp] theorem updLink_strip (n : Link) (f : LinkRec → LinkRec) (s : State) : (s.updLink n f).strip = s.strip := rfl
@[simp] theorem updLink_picker (n : Link) (f : LinkRec → LinkRec) (s : State) : (s.updLink n f).picker = s.picker := rfl
@[simp] theorem updLink_tokens (n : Link) (f : LinkRec → LinkRec) (s : State) : (s.updLink n f).tokens = s.tokens := rfl
@[simp] theorem updLink_lanes (n : Link) (f : LinkRec → LinkRec) (s : State) : (s.updLink n f).lanes = s.lanes := rfl
@[simp] theorem updLink_monitors (n : Link) (f : LinkRec → LinkRec) (s : State) : (s.updLink n f).monitors = s.monitors := rfl
@[simp] theorem updLink_log (n : Link) (f : LinkRec → LinkRec) (s : State) : (s.updLink n f).log = s.log := rfl
@[simp] theorem updLink_control (n : Link) (f : LinkRec → LinkRec) (s : State) : (s.updLink n f).control = s.control := rfl
@[simp] theorem updLink_limits (n : Link) (f : LinkRec → LinkRec) (s : State) : (s.updLink n f).limits = s.limits := rfl
@[simp] theorem updLink_wire (n : Link) (f : LinkRec → LinkRec) (s : State) : (s.updLink n f).wire = s.wire := rfl
@[simp] theorem updLink_host (n : Link) (f : LinkRec → LinkRec) (s : State) : (s.updLink n f).host = s.host := rfl
@[simp] theorem updLink_conds (n : Link) (f : LinkRec → LinkRec) (s : State) : (s.updLink n f).conds = s.conds := rfl
theorem updLink_get (n m : Link) (f : LinkRec → LinkRec) (s : State) :
    (s.updLink n f).links.get m = if n = m then f (s.links.get n) else s.links.get m := by
  cases n <;> cases m <;> rfl

end Sys2Proof.Machine
end

