-- ==== Sys2Proof/Laws/Settings.lean ====
section
/-! SUPPORT. Every shared operation leaves the settings as they were. -/

namespace Sys2Proof.Machine

/-! ## Updates of one record -/

theorem map_modify_eq {α β : Type} (g : α → β) (f : α → α) (h : ∀ x, g (f x) = g x) :
    ∀ (l : List α) (i : Nat), (l.modify i f).map g = l.map g
  | [], i => by cases i <;> rfl
  | x :: l, 0 => by simp [List.modify, h]
  | x :: l, i + 1 => by
    have := map_modify_eq g f h l i
    simp [List.modify_succ_cons, this]

theorem print_updSite (sl : Slot) (r c : Nat) (f : Site → Site) (h : ∀ x, (f x).print = x.print) :
    (sl.updSite r c f).print = sl.print := by
  have : (sl.sites.modify r fun row => row.modify c f).map (fun row => row.map Site.print) =
      sl.sites.map fun row => row.map Site.print :=
    map_modify_eq (fun row : List Site => row.map Site.print) (fun row => row.modify c f)
      (fun row => map_modify_eq Site.print f h row c) sl.sites r
  simp [Slot.updSite, Slot.print, this]

theorem settings_updSlot (i : SlotId) (f : Slot → Slot) (s : State) (h : ∀ sl, (f sl).print = sl.print) :
    (s.updSlot i f).settings = s.settings := by
  cases i <;> simp [State.settings, State.updSlot, PerQuad.set, PerQuad.get, PerQuad.map, h]

@[simp] theorem settings_updTable (k : Table) (f : TableRec → TableRec) (s : State) :
    (s.updTable k f).settings = s.settings := rfl

theorem settings_updLane (n : Lane) (f : LaneRec → LaneRec) (s : State) (h : ∀ r, (f r).settings = r.settings) :
    (s.updLane n f).settings = s.settings := by
  cases n <;> simp [State.settings, State.updLane, PerLane.set, PerLane.get, h]

theorem settings_updMonitor (n : Lane) (f : Monitor → Monitor) (s : State) (h : ∀ r, (f r).figures = r.figures) :
    (s.updMonitor n f).settings = s.settings := by
  cases n <;> simp [State.settings, State.updMonitor, PerLane.set, PerLane.get, h]

@[simp] theorem settings_updWait (n : Lane) (f : Wait → Wait) (s : State) : (s.updWait n f).settings = s.settings := rfl

theorem settings_updLink (l : Link) (f : LinkRec → LinkRec) (s : State) (h : ∀ r, (f r).standing = r.standing) :
    (s.updLink l f).settings = s.settings := by
  cases l <;> simp [State.settings, State.updLink, PerLink.set, PerLink.get, h]

@[simp] theorem settings_updUnit (i : Nat) (f : StripUnit → StripUnit) (s : State) :
    (s.updUnit i f).settings = s.settings := rfl

/-! ## Conditions -/

theorem settings_conds (c : CondId) (d : Option Detail) (s : State) :
    State.settings { s with conds := s.conds.set c { s.conds.get c with detail := d } } = s.settings := by
  cases c <;> rfl

@[simp] theorem settings_raise (d : Detail) (s : State) : (raise d s).settings = s.settings := by
  have h := settings_conds d.cond (some d) s
  unfold raise
  dsimp only
  split
  · rw [← h]; rfl
  · exact h

@[simp] theorem settings_cease (c : CondId) (s : State) : (cease c s).settings = s.settings :=
  settings_conds c none s

@[simp] theorem settings_syncLog (s : State) : (syncLog s).settings = s.settings := by
  unfold syncLog; split <;> simp

@[simp] theorem settings_syncStarved (s : State) : (syncStarved s).settings = s.settings := by
  unfold syncStarved; split <;> simp

@[simp] theorem settings_reply (k : Nat) (tag : Byte) (b : List Byte) (s : State) :
    (reply k tag b s).settings = s.settings := rfl

/-! ## Orders -/

@[simp] theorem settings_sendOrder (l : Link) (k : OrderKind) (p : List Byte) (s : State) :
    (sendOrder l k p s).settings = s.settings := by
  cases l <;> rfl

@[simp] theorem settings_endOrder (l : Link) (s : State) : (endOrder l s).settings = s.settings :=
  settings_updLink l _ s fun _ => rfl

/-- CALL moves only the time to the next CALL of its link. -/
theorem settings_sendCall (l : Link) (s : State) :
    (sendCall l s).settings = (s.updLink l fun r => { r with callTimer := some Config.callInterval }).settings := rfl

@[simp] theorem settings_selectionChange (s : State) : (selectionChange s).settings = s.settings := rfl

@[simp] theorem settings_clearExhausted (p : Slot → Bool) (s : State) :
    (clearExhausted p s).settings = s.settings := by
  have h : ∀ sl : Slot, (if p sl then { sl with exhausted := false } else sl : Slot).print = sl.print := by
    intro sl; split <;> rfl
  simp only [clearExhausted, State.settings, PerQuad.map, h]

/-! ## Units, tokens, dice -/

@[simp] theorem settings_settlePosition (t : Token) (st : PosState) (s : State) :
    (settlePosition t st s).settings = s.settings := by
  unfold settlePosition; split
  · rfl
  · split <;> rfl

@[simp] theorem settings_ejectStripDue (s : State) : (ejectStripDue s).settings = s.settings := by
  unfold ejectStripDue; split
  · rw [settings_sendOrder]; rfl
  · rfl

@[simp] theorem settings_stripDoneDue (s : State) : (stripDoneDue s).settings = s.settings := by
  unfold stripDoneDue; split
  · rw [settings_ejectStripDue, settings_raise]; rfl
  · rfl

theorem settings_log (s : State) (l : Log) (h : l.settings = s.log.settings) :
    State.settings { s with log := l } = s.settings := by
  simp [State.settings, h]

theorem Log.store_settings (p : Placement) (l : Log) : (l.store p).settings = l.settings := by
  unfold Log.store; split <;> rfl

@[simp] theorem settings_createRecord (t : Token) (fate : Fate) (lane : Option Lane) (ctx : Option BondContext)
    (bond : Option BondFields) (s : State) : (createRecord t fate lane ctx bond s).settings = s.settings := by
  unfold createRecord
  dsimp only
  rw [settings_syncLog, settings_log]
  · exact settings_updSlot _ _ _ fun _ => rfl
  · exact Log.store_settings _ _

@[simp] theorem settings_removeToken (t : Token) (s : State) : (removeToken t s).settings = s.settings := by
  unfold removeToken; rw [settings_stripDoneDue]; rfl

@[simp] theorem settings_settleDie (t : Token) (fate : Fate) (lane : Option Lane) (ctx : Option BondContext)
    (bond : Option BondFields) (st : PosState) (s : State) :
    (settleDie t fate lane ctx bond st s).settings = s.settings := by
  simp [settleDie]

@[simp] theorem settings_returnReservation (t : Token) (s : State) :
    (returnReservation t s).settings = s.settings := by
  unfold returnReservation; split <;> rfl

@[simp] theorem settings_moveToken (t : Token) (p : Place) (s : State) : (moveToken t p s).settings = s.settings := rfl

@[simp] theorem settings_setSite (t : Token) (st : SiteState) (s : State) : (setSite t st s).settings = s.settings :=
  settings_updSlot _ _ _ fun sl => print_updSite sl _ _ _ fun _ => rfl

@[simp] theorem settings_releaseToken (t : Token) (s : State) : (releaseToken t s).settings = s.settings := by
  unfold releaseToken
  simp only [settings_removeToken, settings_settlePosition, settings_returnReservation, settings_selectionChange]
  exact settings_updSlot _ _ _ fun sl => print_updSite sl t.row t.col _ fun _ => rfl

@[simp] theorem settings_missToken (t : Token) (s : State) : (missToken t s).settings = s.settings := by
  simp [missToken]

@[simp] theorem settings_setPicker (p : PickerState) (s : State) : (setPicker p s).settings = s.settings := rfl

@[simp] theorem settings_endStep (s : State) : (endStep s).settings = s.settings := by
  unfold endStep; split
  · rw [settings_setPicker]; split <;> simp
  · rfl

/-! ## Waiting -/

@[simp] theorem settings_endWait (n : Lane) (s : State) : (endWait n s).settings = s.settings := by
  unfold endWait; split
  · dsimp only; split <;> simp
  · rfl

@[simp] theorem settings_enterWait (n : Lane) (r : WaitReason) (s : State) :
    (enterWait n r s).settings = s.settings := by
  unfold enterWait; dsimp only; split
  · split <;> simp
  · simp

@[simp] theorem settings_enterHolding (c : HoldCause) (s : State) : (enterHolding c s).settings = s.settings := by
  unfold enterHolding; rw [settings_endWait, settings_endWait]; rfl

/-! ## The owners -/

@[simp] theorem settings_unloadDue (k : Table) (s : State) : (unloadDue k s).settings = s.settings := by
  unfold unloadDue; dsimp only; split <;> simp

@[simp] theorem settings_nestLostDue (n : Lane) (s : State) : (nestLostDue n s).settings = s.settings := by
  unfold nestLostDue; split
  · split
    · rfl
    · rw [settings_updLane, settings_settleDie]
      exact fun _ => rfl
  · rfl

@[simp] theorem settings_nestPurgeDue (n : Lane) (s : State) : (nestPurgeDue n s).settings = s.settings := by
  unfold nestPurgeDue; split
  · exact (settings_sendOrder ..).trans (settings_updLane _ _ _ fun _ => rfl)
  · rfl

@[simp] theorem settings_takeDue (n : Lane) (s : State) : (takeDue n s).settings = s.settings := by
  unfold takeDue; split
  · exact (settings_sendOrder ..).trans (settings_updLane _ _ _ fun _ => rfl)
  · rfl

@[simp] theorem settings_owners (s : State) : (owners s).settings = s.settings := by simp [owners]

/-! ## Production control -/

@[simp] theorem settings_autoHold (s0 s : State) : (autoHold s0 s).settings = s.settings := by
  unfold autoHold; split
  · split
    · simp
    · dsimp only; split <;> split <;> simp
  · rfl

@[simp] theorem settings_reassignDue (s : State) : (reassignDue s).settings = s.settings := by
  unfold reassignDue; split <;> rfl

@[simp] theorem settings_endWaitDue (n : Lane) (s : State) : (endWaitDue n s).settings = s.settings := by
  unfold endWaitDue; split <;> simp

@[simp] theorem settings_heldDue (s : State) : (heldDue s).settings = s.settings := by
  unfold heldDue; split
  · rw [settings_raise]; rfl
  · rfl

@[simp] theorem settings_stoppedDue (s : State) : (stoppedDue s).settings = s.settings := by
  unfold stoppedDue; split <;> rfl

@[simp] theorem settings_control (s0 s : State) : (control s0 s).settings = s.settings := by simp [control]

/-! ## New work -/

@[simp] theorem settings_loadStripDue (s : State) : (loadStripDue s).settings = s.settings := by
  unfold loadStripDue; split
  · rw [settings_sendOrder]; rfl
  · rfl

@[simp] theorem settings_searchFailed (n : Lane) (t : DieType) (r : SearchResult) (s : State) :
    (searchFailed n t r s).settings = s.settings := by
  unfold searchFailed; split
  · dsimp only; rw [settings_enterWait]; split
    · rfl
    · exact (settings_raise ..).trans (settings_updSlot _ _ _ fun _ => rfl)
  all_goals simp

@[simp] theorem settings_createToken (n : Lane) (d : Dest) (t : DieType) (u : StripUnit) (i : SlotId) (r c : Nat)
    (x : Site) (cls : Nat) (g : Group) (s : State) :
    (createToken n d t u i r c x cls g s).settings = s.settings := by
  have h : ∀ sl : Slot, ({ (sl.updSite r c fun x => { x with state := .reserved, attempts := 0 }).advanceFloor with
      exhausted := false } : Slot).print = sl.print := fun sl => print_updSite sl r c _ fun _ => rfl
  have h2 := settings_updSlot i _ s h
  unfold createToken
  dsimp only
  split
  · rw [settings_endWait]; exact h2
  · rw [settings_sendOrder, settings_endWait]; exact h2

/-- The settings of the state a grant leaves, when it leaves one. -/
theorem settings_grantLane (n : Lane) (s t : State) :
    (grantLane n s = .created t → t.settings = s.settings) ∧ (grantLane n s = .failed t → t.settings = s.settings) := by
  unfold grantLane
  split
  · simp
  · split
    · simp
    · split
      · simp
      · split
        · simp
        · dsimp only
          split
          · constructor
            · intro h; cases h; rw [settings_createToken]; rfl
            · intro h; cases h
          · constructor
            · intro h; cases h
            · intro h; cases h; rw [settings_searchFailed]; rfl

@[simp] theorem settings_arbitrate (s : State) : (arbitrate s).settings = s.settings := by
  unfold arbitrate; split
  · split
    · rfl
    · split
      · rfl
      · rename_i h; exact (settings_grantLane _ _ _).1 h
      · rename_i t h
        have ht := (settings_grantLane _ _ _).2 h
        split
        · split
          · exact ht
          · rename_i h2; rw [(settings_grantLane _ _ _).1 h2, ht]
          · rename_i h2; rw [(settings_grantLane _ _ _).2 h2, ht]
        · exact ht
  · rfl

@[simp] theorem settings_newWork (s : State) : (newWork s).settings = s.settings := by simp [newWork]

@[simp] theorem settings_closeEvent (s0 s : State) : (closeEvent s0 s).settings = s.settings := by simp [closeEvent]

/-! ## A link leaves UP or enters it -/

@[simp] theorem settings_tableLost (k : Table) (ended : Bool) (s : State) :
    (tableLost k ended s).settings = s.settings := by
  have h : ∀ (i : SlotId) (s : State), (s.updSlot i fun sl => { sl with state := .ready }).settings = s.settings :=
    fun i s => settings_updSlot i _ s fun _ => rfl
  unfold tableLost
  dsimp only
  split
  · rw [settings_raise, settings_updTable]; split
    · rfl
    · rw [h]; rfl
  · rw [settings_raise, settings_updTable]; split
    · rfl
    · rw [h]; rfl
  · split <;> simp
  · rfl

@[simp] theorem settings_blockReceiving (n : Lane) (s : State) : (blockReceiving n s).settings = s.settings :=
  settings_updLane n _ s fun r => by split <;> rfl

@[simp] theorem settings_pickerLost (s : State) : (pickerLost s).settings = s.settings := by
  unfold pickerLost; split
  · rfl
  · split <;> simp
  all_goals rw [settings_setPicker]; split <;> simp

@[simp] theorem settings_abandonDwell (n : Lane) (s : State) : (abandonDwell n s).settings = s.settings :=
  settings_updMonitor n _ s fun _ => rfl

@[simp] theorem settings_loseToken (n : Lane) (p : Place) (st : PosState) (s : State) :
    (loseToken n p st s).settings = s.settings := by
  unfold loseToken; split <;> simp

@[simp] theorem settings_loseTaking (n : Lane) (s : State) : (loseTaking n s).settings = s.settings := by
  unfold loseTaking; rw [settings_updLane, settings_loseToken]
  exact fun _ => rfl

@[simp] theorem settings_colletLost (n : Lane) (s : State) : (colletLost n s).settings = s.settings := by
  unfold colletLost; split
  · rfl
  · simp
  · simp
  · simp
  · split <;> simp
  · split <;> simp

@[simp] theorem settings_laneLost (n : Lane) (s : State) : (laneLost n s).settings = s.settings := by
  unfold laneLost; dsimp only
  rw [settings_nestLostDue, settings_updLane, settings_colletLost]
  exact fun _ => rfl

@[simp] theorem settings_stripOrderLost (s : State) : (stripOrderLost s).settings = s.settings := by
  unfold stripOrderLost; split <;> rfl

@[simp] theorem settings_ownerLost (l : Link) (ended : Bool) (s : State) :
    (ownerLost l ended s).settings = s.settings := by
  unfold ownerLost; split
  any_goals simp
  split <;> simp

@[simp] theorem settings_raiseLaneOut (l : Link) (s : State) : (raiseLaneOut l s).settings = s.settings := by
  unfold raiseLaneOut; split <;> simp

/-- A link's entry into FAULT changes no setting but the standing of that link. -/
theorem settings_linkFault (l : Link) (c : FaultCause) (s : State) :
    (linkFault l c s).settings =
      (s.updLink l fun r => { r with state := .fault, cause := some c, callTimer := none, breakTimer := none }).settings := by
  unfold linkFault; dsimp only
  rw [settings_newWork, settings_raise, settings_control, settings_owners, settings_raiseLaneOut, settings_ownerLost]
  cases l <;> rfl

@[simp] theorem settings_linkUp (l : Link) (s : State) : (linkUp l s).settings = s.settings := by
  unfold linkUp; dsimp only; split
  any_goals rfl
  all_goals split <;> rfl

/-! ## Reports -/

theorem Settings.butLink_refl (a : Settings) (l : Link) : a.butLink a l := ⟨a.links.get l, by simp⟩

theorem Settings.butLink_of_eq {a b : Settings} (l : Link) (h : b = a) : a.butLink b l := h ▸ a.butLink_refl l

/-- Rewriting one link record changes no setting but the standing of that link. -/
theorem settings_updLink_butLink (l : Link) (f : LinkRec → LinkRec) (s : State) :
    s.settings.butLink (s.updLink l f).settings l := by
  refine ⟨(f (s.links.get l)).standing, ?_⟩
  cases l <;> rfl

theorem settings_updLink_updLink (l : Link) (f g : LinkRec → LinkRec) (s : State) :
    ((s.updLink l f).updLink l g).settings = (s.updLink l fun r => g (f r)).settings := by
  cases l <;> rfl

theorem settings_stationError_butLink (l : Link) (code : Option Byte) (s : State) :
    s.settings.butLink (stationError l code s).settings l := by
  unfold stationError
  rw [settings_linkFault, settings_updLink_updLink]
  exact settings_updLink_butLink _ _ _

/-- A report whose delivery keeps the settings changes no setting but the standing of its link. -/
theorem settings_takeReport (l : Link) (number : Byte) (fits : OrderKind → Bool) (f : State → State) (s : State)
    (h : (f s).settings = s.settings) : s.settings.butLink (takeReport l number fits f s).settings l := by
  unfold takeReport; split
  · split
    · exact settings_updLink_butLink _ _ _
    · split
      · split
        · exact Settings.butLink_of_eq l h
        · exact settings_stationError_butLink _ _ _
      · exact settings_updLink_butLink _ _ _
  · exact s.settings.butLink_refl l

/-- A completing report keeps the settings when its effect does. -/
theorem settings_completing (l : Link) (f : State → State) (s : State)
    (h : ∀ t : State, (f t).settings = t.settings) : (completing l f s).settings = s.settings := by
  unfold completing; rw [settings_closeEvent, h, settings_endOrder]

end Sys2Proof.Machine
end

