-- ==== Sys2Proof/Laws/Ranges.lean ====
section
/-! SUPPORT. Every shared operation keeps the link records and the log within their ranges. -/

namespace Sys2Proof.Machine

/-- An operation that touches neither the links nor the log. -/
theorem tracks_same {s t : State} (h : s.tracksInRange) (hl : t.links = s.links) (hg : t.log = s.log) :
    t.tracksInRange := by
  unfold State.tracksInRange State.linksInRange at *
  rw [hl, hg]; exact h

/-- One link record is rewritten. -/
theorem tracks_updLink {l : Link} {f : LinkRec → LinkRec} {s : State} (h : s.tracksInRange)
    (hf : ∀ r : LinkRec, r.inRange → (f r).inRange) : (s.updLink l f).tracksInRange := by
  refine ⟨fun m => ?_, h.2⟩
  rw [updLink_get]
  split
  · exact hf _ (h.1 l)
  · exact h.1 m

/-- The log is rewritten. -/
theorem tracks_log {s : State} {g : Log} (h : s.tracksInRange) (hg : g.inRange) :
    State.tracksInRange { s with log := g } := ⟨h.1, hg⟩

theorem tracks_raise {s : State} (d : Detail) (h : s.tracksInRange) : (raise d s).tracksInRange := by
  unfold raise; dsimp only
  split
  · exact h
  · exact h

theorem tracks_cease {s : State} (c : CondId) (h : s.tracksInRange) : (cease c s).tracksInRange := h

theorem tracks_syncLog {s : State} (h : s.tracksInRange) : (syncLog s).tracksInRange := by
  unfold syncLog; split
  · exact tracks_raise _ h
  · exact h

theorem tracks_syncStarved {s : State} (h : s.tracksInRange) : (syncStarved s).tracksInRange := by
  unfold syncStarved; split
  · exact h
  · exact tracks_raise _ h
  · exact tracks_raise _ h
  · exact h

theorem tracks_reply {s : State} (k : Nat) (tag : Byte) (b : List Byte) (h : s.tracksInRange) :
    (reply k tag b s).tracksInRange := h

theorem tracks_sendOrder {s : State} (l : Link) (k : OrderKind) (p : List Byte) (h : s.tracksInRange) :
    (sendOrder l k p s).tracksInRange := by
  refine ⟨fun m => ?_, h.2⟩
  have h1 := h.1 l
  have h2 := h.1 m
  unfold sendOrder
  dsimp only
  rw [PerLink.get_set]
  split
  · unfold LinkRec.inRange at *
    dsimp only
    refine ⟨h1.1, h1.2.1, h1.2.2.1, h1.2.2.2.1, by omega, rfl⟩
  · exact h2

theorem tracks_endOrder {s : State} (l : Link) (h : s.tracksInRange) : (endOrder l s).tracksInRange :=
  tracks_updLink h fun _ hr => ⟨hr.1, hr.2.1, hr.2.2.1, hr.2.2.2.1, hr.2.2.2.2.1, rfl⟩

theorem tracks_sendCall {s : State} (l : Link) (h : s.tracksInRange) : (sendCall l s).tracksInRange :=
  tracks_updLink (l := l) (f := fun r => { r with callTimer := some Config.callInterval }) h fun _ hr => hr

theorem tracks_settlePosition {s : State} (t : Token) (st : PosState) (h : s.tracksInRange) :
    (settlePosition t st s).tracksInRange := by
  unfold settlePosition; split
  · exact h
  · split <;> exact h

theorem tracks_ejectStripDue {s : State} (h : s.tracksInRange) : (ejectStripDue s).tracksInRange := by
  unfold ejectStripDue; split
  · exact tracks_sendOrder _ _ _ h
  · exact h

theorem tracks_stripDoneDue {s : State} (h : s.tracksInRange) : (stripDoneDue s).tracksInRange := by
  unfold stripDoneDue; split
  · exact tracks_ejectStripDue (tracks_raise _ h)
  · exact h

theorem Log.store_reserved (p : Placement) (l : Log) : (l.store p).reserved = l.reserved := by
  unfold Log.store; split <;> rfl

theorem Log.store_inRange {l : Log} (p : Placement) (h : l.inRange) : (l.store p).inRange := by
  obtain ⟨h1, hr, h2, h3⟩ := h
  unfold Log.store
  split
  · refine ⟨?_, hr, h2, h3⟩
    simp only [List.length_append, List.length_cons, List.length_nil]; omega
  · refine ⟨?_, hr, by dsimp only; omega, h3⟩
    have : Config.logCapacity = 1024 := rfl
    simp only [List.length_append, List.length_dropLast, List.length_cons, List.length_nil]; omega

/-- One reservation less, or as many as before (R144, R145). -/
theorem Log.useReservation_inRange {l : Log} (used : Bool) (h : l.inRange) :
    Log.inRange { l with reserved := if used then l.reserved - 1 else l.reserved } := by
  refine ⟨h.1, ?_, h.2.2⟩
  have := h.2.1
  dsimp only; split <;> omega

/-- One reservation more, when the log has room for it (R143). -/
theorem Log.takeReservation_inRange {l : Log} (taken : Bool) (hroom : taken = true → l.roomToReserve = true)
    (h : l.inRange) : Log.inRange { l with reserved := if taken then l.reserved + 1 else l.reserved } := by
  refine ⟨h.1, ?_, h.2.2⟩
  have := h.2.1
  dsimp only; split
  · have hr := hroom ‹_›
    unfold Log.roomToReserve at hr
    have := of_decide_eq_true hr
    omega
  · exact this

theorem tracks_createRecord {s : State} (t : Token) (fate : Fate) (lane : Option Lane) (ctx : Option BondContext)
    (bond : Option BondFields) (h : s.tracksInRange) : (createRecord t fate lane ctx bond s).tracksInRange := by
  unfold createRecord
  dsimp only
  have hg := fun p => Log.useReservation_inRange t.reserved (Log.store_inRange p h.2)
  simp only [Log.store_reserved] at hg
  exact tracks_syncLog ⟨h.1, hg _⟩

theorem tracks_removeToken {s : State} (t : Token) (h : s.tracksInRange) : (removeToken t s).tracksInRange :=
  tracks_stripDoneDue h

theorem tracks_settleDie {s : State} (t : Token) (fate : Fate) (lane : Option Lane) (ctx : Option BondContext)
    (bond : Option BondFields) (st : PosState) (h : s.tracksInRange) :
    (settleDie t fate lane ctx bond st s).tracksInRange :=
  tracks_removeToken _ (tracks_createRecord _ _ _ _ _ (tracks_settlePosition _ _ h))

theorem tracks_returnReservation {s : State} (t : Token) (h : s.tracksInRange) :
    (returnReservation t s).tracksInRange := by
  unfold returnReservation; split
  · exact ⟨h.1, Log.useReservation_inRange true h.2⟩
  · exact h

theorem tracks_releaseToken {s : State} (t : Token) (h : s.tracksInRange) : (releaseToken t s).tracksInRange := by
  unfold releaseToken
  exact tracks_removeToken _ (tracks_settlePosition _ _ (tracks_returnReservation _ h))

theorem tracks_missToken {s : State} (t : Token) (h : s.tracksInRange) : (missToken t s).tracksInRange :=
  tracks_removeToken _ (tracks_settlePosition _ _ (tracks_returnReservation _ h))

theorem tracks_setPicker {s : State} (p : PickerState) (h : s.tracksInRange) : (setPicker p s).tracksInRange := h

theorem tracks_updLane {s : State} (n : Lane) (f : LaneRec → LaneRec) (h : s.tracksInRange) :
    (s.updLane n f).tracksInRange := h

theorem tracks_setSite {s : State} (t : Token) (st : SiteState) (h : s.tracksInRange) :
    (setSite t st s).tracksInRange := h

theorem tracks_moveToken {s : State} (t : Token) (p : Place) (h : s.tracksInRange) :
    (moveToken t p s).tracksInRange := h

theorem tracks_blockReceiving {s : State} (n : Lane) (h : s.tracksInRange) : (blockReceiving n s).tracksInRange := h

theorem tracks_endStep {s : State} (h : s.tracksInRange) : (endStep s).tracksInRange := by
  unfold endStep; split
  · refine tracks_setPicker _ ?_
    split
    · exact h
    · exact tracks_releaseToken _ h
  · exact h

theorem tracks_endWait {s : State} (n : Lane) (h : s.tracksInRange) : (endWait n s).tracksInRange := by
  unfold endWait; dsimp only; split
  · split
    · exact tracks_syncStarved h
    · exact h
  · exact h

theorem tracks_enterWait {s : State} (n : Lane) (r : WaitReason) (h : s.tracksInRange) :
    (enterWait n r s).tracksInRange := by
  unfold enterWait; dsimp only; split
  · split
    · exact tracks_raise _ h
    · exact h
  · exact h

theorem tracks_enterHolding {s : State} (c : HoldCause) (h : s.tracksInRange) : (enterHolding c s).tracksInRange :=
  tracks_endWait _ (tracks_endWait _ h)

theorem tracks_unloadDue {s : State} (k : Table) (h : s.tracksInRange) : (unloadDue k s).tracksInRange := by
  unfold unloadDue; dsimp only; split
  · exact tracks_sendOrder _ _ _ h
  · exact h

theorem tracks_nestLostDue {s : State} (n : Lane) (h : s.tracksInRange) : (nestLostDue n s).tracksInRange := by
  unfold nestLostDue; split
  · split
    · exact h
    · exact tracks_updLane _ _ (tracks_settleDie _ _ _ _ _ _ h)
  · exact h

theorem tracks_nestPurgeDue {s : State} (n : Lane) (h : s.tracksInRange) : (nestPurgeDue n s).tracksInRange := by
  unfold nestPurgeDue; split
  · exact tracks_sendOrder _ _ _ h
  · exact h

theorem tracks_takeDue {s : State} (n : Lane) (h : s.tracksInRange) : (takeDue n s).tracksInRange := by
  unfold takeDue; split
  · exact tracks_sendOrder _ _ _ h
  · exact h

theorem tracks_owners {s : State} (h : s.tracksInRange) : (owners s).tracksInRange := by
  unfold owners
  exact tracks_takeDue _ (tracks_nestPurgeDue _ (tracks_takeDue _ (tracks_nestPurgeDue _ (tracks_nestLostDue _
    (tracks_nestLostDue _ (tracks_unloadDue _ (tracks_unloadDue _ (tracks_ejectStripDue (tracks_stripDoneDue h)))))))))

theorem tracks_autoHold {s : State} (s0 : State) (h : s.tracksInRange) : (autoHold s0 s).tracksInRange := by
  unfold autoHold; split
  · split
    · exact tracks_enterHolding _ h
    · dsimp only; split <;> split
      · exact tracks_enterHolding _ h
      · exact h
      · exact tracks_enterHolding _ h
      · exact h
  · exact h

theorem tracks_reassignDue {s : State} (h : s.tracksInRange) : (reassignDue s).tracksInRange := by
  unfold reassignDue; split <;> exact h

theorem tracks_endWaitDue {s : State} (n : Lane) (h : s.tracksInRange) : (endWaitDue n s).tracksInRange := by
  unfold endWaitDue; split
  · exact tracks_endWait _ h
  · exact h

theorem tracks_heldDue {s : State} (h : s.tracksInRange) : (heldDue s).tracksInRange := by
  unfold heldDue; split
  · exact tracks_raise _ h
  · exact h

theorem tracks_stoppedDue {s : State} (h : s.tracksInRange) : (stoppedDue s).tracksInRange := by
  unfold stoppedDue; split <;> exact h

theorem tracks_control {s : State} (s0 : State) (h : s.tracksInRange) : (control s0 s).tracksInRange :=
  tracks_stoppedDue (tracks_heldDue (tracks_endWaitDue _ (tracks_endWaitDue _ (tracks_reassignDue
    (tracks_autoHold _ h)))))

theorem tracks_loadStripDue {s : State} (h : s.tracksInRange) : (loadStripDue s).tracksInRange := by
  unfold loadStripDue; split
  · exact tracks_sendOrder _ _ _ h
  · exact h

theorem tracks_searchFailed {s : State} (n : Lane) (t : DieType) (r : SearchResult) (h : s.tracksInRange) :
    (searchFailed n t r s).tracksInRange := by
  unfold searchFailed; split
  · dsimp only; split
    · exact tracks_enterWait _ _ h
    · exact tracks_enterWait _ _ (tracks_raise _ h)
  all_goals exact tracks_enterWait _ _ h

theorem tracks_createToken {s : State} (n : Lane) (d : Dest) (t : DieType) (u : StripUnit) (i : SlotId) (r c : Nat)
    (x : Site) (cls : Nat) (g : Group) (hroom : s.log.policy = .stall → s.log.roomToReserve = true)
    (h : s.tracksInRange) : (createToken n d t u i r c x cls g s).tracksInRange := by
  have hg := Log.takeReservation_inRange (decide (s.log.policy = .stall)) (fun e => hroom (of_decide_eq_true e)) h.2
  unfold createToken
  dsimp only
  split
  · exact tracks_endWait _ ⟨h.1, hg⟩
  · exact tracks_sendOrder _ _ _ (tracks_endWait _ ⟨h.1, hg⟩)

/-- The ranges of the state a grant leaves, when it leaves one. -/
theorem tracks_grantLane {s : State} (n : Lane) (t : State) (h : s.tracksInRange) :
    (grantLane n s = .created t → t.tracksInRange) ∧ (grantLane n s = .failed t → t.tracksInRange) := by
  unfold grantLane
  split
  · simp
  · rename_i hroom
    have hroom : s.log.policy = .stall → s.log.roomToReserve = true := by simpa using hroom
    split
    · simp
    · split
      · simp
      · split
        · simp
        · dsimp only
          split
          · constructor
            · intro e; cases e; exact tracks_createToken _ _ _ _ _ _ _ _ _ _ hroom h
            · intro e; cases e
          · constructor
            · intro e; cases e
            · intro e; cases e; exact tracks_searchFailed _ _ _ h

theorem tracks_arbitrate {s : State} (h : s.tracksInRange) : (arbitrate s).tracksInRange := by
  unfold arbitrate; split
  · split
    · exact h
    · split
      · exact h
      · rename_i e; exact (tracks_grantLane _ _ h).1 e
      · rename_i t e
        have ht := (tracks_grantLane _ _ h).2 e
        split
        · split
          · exact ht
          · rename_i e2; exact (tracks_grantLane _ _ ht).1 e2
          · rename_i e2; exact (tracks_grantLane _ _ ht).2 e2
        · exact ht
  · exact h

theorem tracks_newWork {s : State} (h : s.tracksInRange) : (newWork s).tracksInRange :=
  tracks_arbitrate (tracks_loadStripDue h)

theorem tracks_closeEvent {s : State} (s0 : State) (h : s.tracksInRange) : (closeEvent s0 s).tracksInRange :=
  tracks_newWork (tracks_control _ (tracks_owners h))

theorem tracks_tableLost {s : State} (k : Table) (ended : Bool) (h : s.tracksInRange) :
    (tableLost k ended s).tracksInRange := by
  unfold tableLost
  dsimp only
  split
  · refine tracks_raise _ ?_
    split <;> exact h
  · refine tracks_raise _ ?_
    split <;> exact h
  · split
    · exact tracks_endStep h
    · exact h
  · exact h

theorem tracks_pickerLost {s : State} (h : s.tracksInRange) : (pickerLost s).tracksInRange := by
  unfold pickerLost; split
  · exact h
  · split
    · exact h
    · exact tracks_releaseToken _ h
  all_goals
    refine tracks_setPicker _ ?_
    split
    · exact h
    · exact tracks_blockReceiving _ (tracks_settleDie _ _ _ _ _ _ (tracks_setSite _ _ h))

theorem tracks_loseToken {s : State} (n : Lane) (p : Place) (st : PosState) (h : s.tracksInRange) :
    (loseToken n p st s).tracksInRange := by
  unfold loseToken; split
  · exact h
  · exact tracks_settleDie _ _ _ _ _ _ h

theorem tracks_loseTaking {s : State} (n : Lane) (h : s.tracksInRange) : (loseTaking n s).tracksInRange :=
  tracks_updLane _ _ (tracks_loseToken _ _ _ h)

theorem tracks_abandonDwell {s : State} (n : Lane) (h : s.tracksInRange) : (abandonDwell n s).tracksInRange := h

theorem tracks_colletLost {s : State} (n : Lane) (h : s.tracksInRange) : (colletLost n s).tracksInRange := by
  unfold colletLost; split
  · exact h
  · exact tracks_loseTaking _ h
  · exact tracks_loseToken _ _ _ h
  · exact tracks_loseToken _ _ _ (tracks_abandonDwell _ h)
  · split
    · exact tracks_loseToken _ _ _ h
    · exact h
    · exact h
  · split
    · exact tracks_loseTaking _ h
    · exact tracks_loseToken _ _ _ h
    · exact tracks_loseToken _ _ _ (tracks_abandonDwell _ h)
    · exact h

theorem tracks_laneLost {s : State} (n : Lane) (h : s.tracksInRange) : (laneLost n s).tracksInRange := by
  unfold laneLost; dsimp only
  exact tracks_nestLostDue _ (tracks_updLane _ _ (tracks_colletLost _ h))

theorem tracks_stripOrderLost {s : State} (h : s.tracksInRange) : (stripOrderLost s).tracksInRange := by
  unfold stripOrderLost; split <;> exact h

theorem tracks_ownerLost {s : State} (l : Link) (ended : Bool) (h : s.tracksInRange) :
    (ownerLost l ended s).tracksInRange := by
  unfold ownerLost; split
  · exact tracks_tableLost _ _ h
  · exact tracks_tableLost _ _ h
  · exact tracks_pickerLost h
  · exact tracks_laneLost _ h
  · exact tracks_laneLost _ h
  · split
    · exact tracks_stripOrderLost h
    · exact h

theorem tracks_raiseLaneOut {s : State} (l : Link) (h : s.tracksInRange) : (raiseLaneOut l s).tracksInRange := by
  unfold raiseLaneOut; split <;> first | exact tracks_raise _ h | exact h

theorem tracks_linkFault {s : State} (l : Link) (c : FaultCause) (h : s.tracksInRange) :
    (linkFault l c s).tracksInRange := by
  unfold linkFault; dsimp only
  refine tracks_newWork (tracks_raise _ (tracks_control _ (tracks_owners (tracks_raiseLaneOut _
    (tracks_ownerLost _ _ (tracks_updLink (tracks_endOrder _ h) fun _ hr => hr))))))

theorem tracks_linkUp {s : State} (l : Link) (h : s.tracksInRange) : (linkUp l s).tracksInRange := by
  unfold linkUp; dsimp only; split
  any_goals exact h
  all_goals split <;> exact h

theorem tracks_lateReport {s : State} (l : Link) (h : s.tracksInRange) : (lateReport l s).tracksInRange :=
  tracks_updLink h fun r hr => ⟨hr.1, hr.2.1, hr.2.2.1, by dsimp only; omega, hr.2.2.2.2.1, hr.2.2.2.2.2⟩

theorem tracks_stationError {s : State} (l : Link) (code : Option Byte) (h : s.tracksInRange) :
    (stationError l code s).tracksInRange :=
  tracks_linkFault _ _ (tracks_updLink h fun _ hr => hr)

/-- A report keeps the ranges when its delivery to an outstanding order does. -/
theorem tracks_takeReport {s : State} (l : Link) (number : Byte) (fits : OrderKind → Bool) (f : State → State)
    (h : s.tracksInRange)
    (hf : ∀ o, (s.links.get l).outstanding = some o → fits o.kind = true → (f s).tracksInRange) :
    (takeReport l number fits f s).tracksInRange := by
  unfold takeReport; split
  · split
    · exact tracks_lateReport _ h
    · rename_i o e
      split
      · split
        · exact hf o e ‹_›
        · exact tracks_stationError _ _ h
      · exact tracks_lateReport _ h
  · exact h

/-- A completing report keeps the ranges when its effect does. -/
theorem tracks_completing {s : State} (l : Link) (f : State → State) (h : s.tracksInRange)
    (hf : ∀ t : State, t.tracksInRange → (f t).tracksInRange) : (completing l f s).tracksInRange :=
  tracks_closeEvent _ (hf _ (tracks_endOrder _ h))

end Sys2Proof.Machine
end

