-- ==== Sys2Proof/Laws/Commands.lean ====
section
/-! SUPPORT. What a command keeps: one rule for every property that replies and what comes about by themselves keep; and
what small shared operations do. -/

namespace Sys2Proof.Machine

/-- A property of the state a command leaves, if it is accepted. -/
def CmdResult.leaves (P : State → Prop) : CmdResult → Prop
  | .refused .. => True
  | .answers t _ => P t
  | .acts t _ => P t

/-- A property kept by replies, by what comes about by itself, and by the command's own effect is kept by taking the
command. -/
theorem command_keeps {P : State → Prop} (hr : ∀ k tag b t, P t → P (reply k tag b t))
    (hc : ∀ s0 t, P t → P (closeEvent s0 t)) {kind : Nat} {tag : Byte} {c : State → CmdResult} {s : State} (h : P s)
    (he : (c s).leaves P) : P (command kind tag c s) := by
  unfold command
  revert he
  cases c s with
  | refused r v => intro _; exact hr _ _ _ _ h
  | answers t v => intro he; exact hr _ _ _ _ he
  | acts t v => intro he; exact hr _ _ _ _ (hc _ _ he)

/-- With the supply up a live step is its effect. -/
theorem live_on {f : State → State} {s : State} (h : s.powered = true) : live f s = .next (f s) := by simp [live, h]

/-- With the supply down a live step does nothing. -/
theorem live_off {f : State → State} {s : State} (h : s.powered = false) : live f s = .next s := by simp [live, h]

/-- A live step keeps what its effect keeps. -/
theorem live_keeps {P : State → Prop} {f : State → State} {s t : State} (h : P s) (hf : P (f s))
    (e : live f s = .next t) : P t := by
  unfold live at e
  split at e <;> (cases e; assumption)

/-! ## Properties that do not look at the links -/

/-- A property of the settings that the standing of a link does not touch. -/
def IgnoresLinks (P : State → Prop) : Prop := ∀ s t l, s.settings.butLink t.settings l → P s → P t

theorem IgnoresLinks.of_settings {P : State → Prop} (hP : IgnoresLinks P) {s t : State} (e : t.settings = s.settings)
    (h : P s) : P t := hP s t .ta (Settings.butLink_of_eq _ e) h

theorem IgnoresLinks.reply {P : State → Prop} (hP : IgnoresLinks P) (k : Nat) (tag : Byte) (b : List Byte) (t : State)
    (h : P t) : P (Machine.reply k tag b t) := hP.of_settings (settings_reply k tag b t) h

theorem IgnoresLinks.closeEvent {P : State → Prop} (hP : IgnoresLinks P) (s0 t : State) (h : P t) :
    P (Machine.closeEvent s0 t) := hP.of_settings (settings_closeEvent s0 t) h

/-- Such a property is kept by a link's entry into FAULT. -/
theorem IgnoresLinks.linkFault {P : State → Prop} (hP : IgnoresLinks P) (l : Link) (c : FaultCause) (t : State)
    (h : P t) : P (Machine.linkFault l c t) := by
  refine hP t _ l ?_ h
  rw [settings_linkFault]
  exact settings_updLink_butLink _ _ _

theorem IgnoresLinks.updLink {P : State → Prop} (hP : IgnoresLinks P) (l : Link) (f : LinkRec → LinkRec) (t : State)
    (h : P t) : P (t.updLink l f) := hP t _ l (settings_updLink_butLink _ _ _) h

/-- Such a property is kept by a report when its delivery keeps it. -/
theorem IgnoresLinks.takeReport {P : State → Prop} (hP : IgnoresLinks P) (l : Link) (number : Byte)
    (fits : OrderKind → Bool) (f : State → State) (s : State) (h : P s) (hf : P (f s)) :
    P (Machine.takeReport l number fits f s) := by
  unfold Machine.takeReport; split
  · split
    · exact hP.updLink _ _ _ h
    · split
      · split
        · exact hf
        · exact hP.linkFault _ _ _ (hP.updLink _ _ _ h)
      · exact hP.updLink _ _ _ h
  · exact h

/-- Such a property is kept by a command whose own effect keeps it. -/
theorem IgnoresLinks.command {P : State → Prop} (hP : IgnoresLinks P) {kind : Nat} {tag : Byte}
    {c : State → CmdResult} {s : State} (h : P s) (he : (c s).leaves P) : P (Machine.command kind tag c s) :=
  command_keeps hP.reply hP.closeEvent h he

/-! ## Bad frames, settling, disabled monitors -/

/-- A station frame is bad when its check is wrong or its kind lies outside the kinds of Table 11-8. -/
theorem frameBad_iff {number kind check : Byte} {p : List Byte} :
    frameBad number kind p check = true ↔ crc8 (number :: kind :: p) ≠ check ∨ kind.toNat < 64 ∨ 79 < kind.toNat := by
  rw [frameBad, namesReport, Bool.or_eq_true, Bool.not_eq_true', Bool.and_eq_false_iff, decide_eq_true_iff,
    decide_eq_false_iff_not, decide_eq_false_iff_not, Nat.not_le, Nat.not_le]

/-- After STOP no settle expiry occurs (R129). -/
theorem settleExpiryEvent_stopping {n : Lane} {s : State} (h : s.control.cell = .stopping) : settleExpiryEvent n s = s := by
  simp [settleExpiryEvent, h]

/-- `Monitor.silent` leaves an enabled monitor. -/
theorem Monitor.silent_of_enabled {m : Monitor} (h : m.enable = true) : m.silent = m := by simp [Monitor.silent, h]

/-- `Monitor.silent` takes a disabled monitor's sample and fresh flag, and nothing else. -/
theorem Monitor.silent_of_disabled {m : Monitor} (h : m.enable = false) :
    m.silent = { m with latest := none, fresh := false } := by simp [Monitor.silent, h]

/-! ## Delivered rows -/

/-- A row that joins the delivered rows stands among them once, and the others as often as before (R8). -/
theorem count_insertRow (r k : Nat) (rows : List Nat) :
    (insertRow r rows).count k = if k = r then 1 else rows.count k := by
  have below : k < r → (rows.filter fun x => decide (x < r)).count k = rows.count k := fun h =>
    List.count_filter (decide_eq_true h)
  have above : r < k → (rows.filter fun x => decide (r < x)).count k = rows.count k := fun h =>
    List.count_filter (decide_eq_true h)
  have notBelow : ¬k < r → (rows.filter fun x => decide (x < r)).count k = 0 := fun h =>
    List.count_eq_zero_of_not_mem fun m => h (of_decide_eq_true (List.mem_filter.1 m).2)
  have notAbove : ¬r < k → (rows.filter fun x => decide (r < x)).count k = 0 := fun h =>
    List.count_eq_zero_of_not_mem fun m => h (of_decide_eq_true (List.mem_filter.1 m).2)
  rw [insertRow, List.count_append]
  by_cases h : k = r
  · subst h
    rw [if_pos rfl, List.count_cons_self, notBelow (Nat.lt_irrefl k), notAbove (Nat.lt_irrefl k)]
  · rw [if_neg h, List.count_cons_of_ne (Ne.symm h)]
    by_cases lt : k < r
    · rw [below lt, notAbove (by omega), Nat.add_zero]
    · rw [notBelow lt, above (by omega), Nat.zero_add]

end Sys2Proof.Machine
end

