-- ==== Sys2Proof/WellFormed.lean ====
section
/-! DEFINITION. The operands a command can come with: lengths the envelopes of Tables 11-4 and 11-8 allow. -/

namespace Sys2Proof

/-- A payload fits the command link frame (Table 11-4). -/
def payloadFits (p : List Byte) : Bool := decide (p.length ≤ 240)

/-- A kind of the index of commands (Table 11-1). -/
def indexed (k : Nat) : Bool :=
  (decide (1 ≤ k) && decide (k ≤ 7)) || (decide (16 ≤ k) && decide (k ≤ 22)) || (decide (32 ≤ k) && decide (k ≤ 35)) ||
  (decide (40 ≤ k) && decide (k ≤ 42)) || decide (k = 48) || (decide (56 ≤ k) && decide (k ≤ 58)) ||
  (decide (64 ≤ k) && decide (k ≤ 65)) || (decide (72 ≤ k) && decide (k ≤ 73)) || (decide (80 ≤ k) && decide (k ≤ 85)) ||
  (decide (96 ≤ k) && decide (k ≤ 102)) || (decide (112 ≤ k) && decide (k ≤ 116))

/-- The parameter length of a station frame of a report kind is the kind's (Table 11-8); a kind that names no report
has at most the 40 bytes of the envelope. -/
def reportLength (kind n : Nat) : Bool :=
  match kind with
  | 64 => decide (n = 9)
  | 65 => decide (n = 13)
  | 74 => decide (n = 7)
  | 76 => decide (n = 40)
  | 78 | 79 => decide (n = 1)
  | 66 | 67 | 68 | 69 | 70 | 71 | 72 | 73 | 75 | 77 => decide (n = 0)
  | _ => decide (n ≤ 40)

/-- A command is well formed. -/
def Instr.wf (i : Instr) : Bool :=
  match i with
  | .powerOn _ _ => true
  | .rstn _ _ => true
  | .frameReceived _ _ payload _ => payloadFits payload
  | .discardLength length => decide (length.toNat < 2) || decide (242 < length.toNat)
  | .discardGap _ => true
  | .recordSent => true
  | .unknownKindCommand kind _ payload => payloadFits payload && !indexed kind.toNat
  | .mapOpen _ payload => payloadFits payload
  | .mapRows _ payload => payloadFits payload
  | .mapClose _ payload => payloadFits payload
  | .mapDrop _ payload => payloadFits payload
  | .mapMark _ payload => payloadFits payload
  | .mapRead _ payload => payloadFits payload
  | .mapSummary _ payload => payloadFits payload
  | .setBins _ payload => payloadFits payload
  | .useBank _ payload => payloadFits payload
  | .setGroups _ payload => payloadFits payload
  | .readClasses _ payload => payloadFits payload
  | .stageRecipe _ payload => payloadFits payload
  | .promote _ payload => payloadFits payload
  | .readRecipe _ payload => payloadFits payload
  | .mount _ payload => payloadFits payload
  | .dismount _ payload => payloadFits payload
  | .setWaferId _ payload => payloadFits payload
  | .setOffset _ payload => payloadFits payload
  | .setStripType _ payload => payloadFits payload
  | .stripLock _ payload => payloadFits payload
  | .readUnits _ payload => payloadFits payload
  | .readTokens _ payload => payloadFits payload
  | .setLane _ payload => payloadFits payload
  | .readLane _ payload => payloadFits payload
  | .restoreLane _ payload => payloadFits payload
  | .setForce _ payload => payloadFits payload
  | .readForce _ payload => payloadFits payload
  | .setLog _ payload => payloadFits payload
  | .fetchLog _ payload => payloadFits payload
  | .run _ payload => payloadFits payload
  | .hold _ payload => payloadFits payload
  | .stop _ payload => payloadFits payload
  | .setCell _ payload => payloadFits payload
  | .relaxUnit _ payload => payloadFits payload
  | .voidUnit _ payload => payloadFits payload
  | .enableLink _ payload => payloadFits payload
  | .resetLink _ payload => payloadFits payload
  | .breakEnd _ => true
  | .disableLink _ payload => payloadFits payload
  | .lockStationId _ payload => payloadFits payload
  | .testLink _ payload => payloadFits payload
  | .setLimits _ payload => payloadFits payload
  | .readStation _ payload => payloadFits payload
  | .ping _ payload => payloadFits payload
  | .status _ payload => payloadFits payload
  | .readCondition _ payload => payloadFits payload
  | .setNotices _ payload => payloadFits payload
  | .resetCell _ payload => payloadFits payload
  | .call _ => true
  | .hello _ _ _ identity => decide (identity.length = 8)
  | .stationFrameDiscard _ _ kind params _ => reportLength kind.toNat params.length
  | .stationFrameTimeout _ => true
  | .stationError _ _ _ => true
  | .watchdogExpiry _ => true
  | .waferIn _ _ _ identity => decide (identity.length = 12)
  | .waferOut _ _ => true
  | .unloadWafer _ => true
  | .abortedTable _ _ _ => true
  | .grant => true
  | .stepped _ _ => true
  | .picked _ _ => true
  | .pickFail _ _ => true
  | .putDone _ _ => true
  | .dropped _ _ => true
  | .abortedPk _ _ => true
  | .purgedOnPk _ => true
  | .settleExpiry _ => true
  | .take _ => true
  | .nestPurge _ => true
  | .taken _ _ => true
  | .touched _ _ => true
  | .bonded _ _ _ _ _ _ => true
  | .purged _ _ => true
  | .abortedBonder _ _ _ => true
  | .idleConversion _ _ => true
  | .dwellConversion _ _ => true
  | .loadStrip => true
  | .arrived _ _ stripId _ _ _ xouts => decide (stripId.length = 12) && decide (xouts.length = 12)
  | .stripDone => true
  | .ejectStrip => true
  | .ejected _ _ => true
  | .abortedIx _ _ => true
  | .enterHeld => true
  | .enterStopped => true
  | .unitReassignment => true
  | .starvationExpiry _ => true
  | .ageTimerExpiry => true
  | .supplyFails => true

end Sys2Proof
end

