-- ==== Sys2Proof/Tests/Slice0.lean ====
section
/-! SUPPORT. Tests: ill-formed terms refused, layouts and checks against the spec's own figures, and for every statement
with hypotheses a state that meets them, each clause at a boundary of its range. -/

namespace Sys2Proof.Tests

set_option Elab.async false

open Sys2Proof Sys2Proof.Machine

/-! ## Small states -/

/-- The state a command leaves. -/
def after : Host.Outcome State Fault Refusal → State
  | .next s => s
  | _ => State.reset

def noMarks : Marks := ⟨false, false, false, false⟩
def die (bin : Nat) : Site := ⟨.present, bin, noMarks, 0⟩
def hole : Site := ⟨.void, 63, noMarks, 0⟩
def id12 : Text := List.replicate 12 65
def id8 : Text := List.replicate 8 66

/-- A 2 by 2 map with one hole. -/
def wafer (st : SlotState) : Slot :=
  { Slot.reset with state := st, rows := 2, cols := 2, delivered := [0, 1], sites := [[die 5, die 6], [die 6, hole]] }

def recipe : Recipe :=
  { acceptance := 0xffff, filter := ⟨.ignore, .ignore, .ignore, .ignore⟩, base := 10, fine := 5, setpoint := 300
    dwell := 7, windowLow := 100, windowHigh := 200, offsetLimit := 20, rotationLimit := 50, retryLimit := 1 }

def layout : StripType := ⟨1, 2, 2, 8000, 50, true, [⟨.q0, 0, 0, none⟩, ⟨.q0, 5, 5, some 1⟩]⟩
def position (st : PosState) (b : Option Nat) : Position := ⟨.q0, 0, 0, b, st⟩
def unitA : StripUnit := ⟨0, 0, 0, .one, .opened, none, false, [position .empty none, position .empty (some 1)]⟩
def unitB : StripUnit := ⟨1, 0, 1, .two, .opened, none, false, [position .empty none, position .empty (some 1)]⟩
def unitDone : StripUnit := { unitA with state := .voided, positions := [position .abandoned none] }

/-- Every link UP, nothing to send, the cell STOPPED. -/
def bench : State :=
  { State.reset with
    links := ⟨{ LinkRec.reset with state := .up }, { LinkRec.reset with state := .up }, { LinkRec.reset with state := .up },
      { LinkRec.reset with state := .up }, { LinkRec.reset with state := .up }, { LinkRec.reset with state := .up }⟩
    host := { State.reset.host with tx := [] } }

/-- `bench` without supply. -/
def dark : State := { bench with powered := false }

def withCell (c : CellState) (s : State) : State := { s with control := { s.control with cell := c } }
def withLink (l : Link) (st : LinkState) (s : State) : State := s.updLink l fun r => { r with state := st }
def withStrip (st : StripState) (units : List StripUnit) (s : State) : State :=
  { s with strip := ⟨st, false, some id12, some 0, some layout, some 8000, some .accepted, units⟩ }
def withSlot (st : SlotState) (s : State) : State := { s with slots := { s.slots with q0 := wafer st } }

/-- An order of a kind outstanding with number 7. -/
def withOrder (l : Link) (k : OrderKind) (s : State) : State :=
  s.updLink l fun r => { r with outstanding := some ⟨k, 7⟩, watchdog := some 10 }

/-- Table A holds slot 0. -/
def withTable (st : TableState) (s : State) : State :=
  s.updTable .a fun r => { r with state := st, slot := some .q0 }

def token (p : Place) : Token := ⟨.q0, 0, 0, 5, 1, .q0, .q0, 0, .one, some ⟨0, 1⟩, p, true⟩
def withToken (p : Place) (s : State) : State := { s with tokens := [token p] }
def withPicker (st : PickerState) (s : State) : State := { s with picker := ⟨st, .one⟩ }
def withCollet (st : ColletState) (s : State) : State := s.updLane .one fun r => { r with collet := st }
def withNest (st : NestState) (s : State) : State := s.updLane .one fun r => { r with nest := st }
def withPurge (x : PurgeSource) (s : State) : State := s.updLane .one fun r => { r with purge := some x }
def withOrigin (x : AbortOrigin) (s : State) : State := s.updLane .one fun r => { r with abort := some x }
def withTx (tx : List TxRecord) (s : State) : State := { s with host := { s.host with tx := tx } }
def withQueue (n : Nat) (s : State) : State := { s with host := { s.host with queue := List.replicate n ⟨112, 1, []⟩ } }
def withPending (d : Detail) (s : State) : State :=
  { s with conds := s.conds.set d.cond { s.conds.get d.cond with detail := some d } }

/-- A running cell with slot 0 mounted on table A, its recipe active, bins 5 and 6 of classes 1 and 2, an ACTIVE strip. -/
def line : State :=
  { withCell .running (withStrip .active [unitA, unitB] (withTable .occupied (withSlot .mounted bench))) with
    classes := { ClassTables.reset with bank0 := ((List.replicate 64 none).set 5 (some 1)).set 6 (some 2) }
    recipes := { RecipeStore.reset with active := ⟨some recipe, none, none, none⟩ } }

/-- Lane 1 alone may ask for a die. -/
def laneOne : State := line.updLane .two fun r => { r with enable := false }

/-! ## Well-formed terms -/

def long : List Byte := List.replicate 241 0

theorem test_wf_refuses_payloads_longer_than_240 :
    (List.range 128).all (fun k => match hostRow k with
      | none => true
      | some row => !(row 0 long).wf && (row 0 (long.drop 1)).wf) = true := by decide +kernel

theorem test_wf_refuses_ill_formed_commands :
    (Instr.frameReceived 112 0 long 0).wf = false ∧ (Instr.unknownKindCommand 9 0 long).wf = false ∧
    (Instr.unknownKindCommand 112 0 []).wf = false ∧ (Instr.discardLength 2).wf = false ∧
    (Instr.discardLength 242).wf = false ∧ (Instr.hello .ta 0 0 (id8.drop 1)).wf = false ∧
    (Instr.stationFrameDiscard .ta 0 64 id8 0).wf = false ∧ (Instr.stationFrameDiscard .ta 0 90 (long.drop 200) 0).wf = false ∧
    (Instr.waferIn .ta 0 0 id8).wf = false ∧ (Instr.arrived .ix 0 id8 0 0 0 (List.replicate 12 (0, 0))).wf = false ∧
    (Instr.arrived .ix 0 id12 0 0 0 (List.replicate 11 (0, 0))).wf = false := by decide +kernel

theorem test_wf_accepts_the_bounds :
    (Instr.discardLength 1).wf = true ∧ (Instr.discardLength 243).wf = true ∧ (Instr.hello .ta 0 0 id8).wf = true ∧
    (Instr.unknownKindCommand 8 0 []).wf = true ∧ (Instr.stationFrameDiscard .ta 0 90 (long.drop 201) 0).wf = true ∧
    (Instr.arrived .ix 0 id12 0 0 12 (List.replicate 12 (0, 0))).wf = true := by decide +kernel

theorem test_wf_agrees_with_the_index_of_commands :
    (List.range 256).all (fun k => indexed k == (hostRow k).isSome && (hostRow k).isSome == (commandOf k).isSome) = true := by
  decide +kernel

theorem test_decode_gives_no_command : decodeTableWord 8 0 = none ∧ State.reset.withFetchWord 8 0 = State.reset := by
  decide +kernel

/-! ## Figures of the spec -/

/-- The check values of the two polynomials of R197 over the digits 1 to 9. -/
theorem test_crc_check_values :
    crc16 [0x31, 0x32, 0x33, 0x34, 0x35, 0x36, 0x37, 0x38, 0x39] = 0x29b1 ∧
    crc8 [0x31, 0x32, 0x33, 0x34, 0x35, 0x36, 0x37, 0x38, 0x39] = 0xf4 := by decide +kernel

/-- Table 1-8, first record: row 0 is (5, 63), row 1 is (1, 63), (3, 4), (1, 63). -/
theorem test_map_rows_of_table_1_8 :
    (after (exec (.mapRows 9 [0, 0, 2, 2, 63, 5, 4, 127, 4, 3, 127])
      { bench with slots := { bench.slots with q0 := Slot.opened .q1 4 5 none } })).host.tx =
      [.reply 130 9 [0, 2, 3, 0]] := by decide +kernel

/-- A literal group of two bins, 5 and 6: the first bin in the lowest bits. -/
theorem test_literal_group : readRuns 3 [0xc2, 0x85, 0x01] = some [⟨1, 5⟩, ⟨1, 6⟩] := by decide +kernel

/-- Table 1-10, second record: TOGGLE of EDGE over row 3 changes five sites. -/
theorem test_map_mark_of_table_1_10 :
    (after (exec (.mapMark 9 [0, 3, 3, 0, 4, 2, 1, 0])
      { bench with slots := { bench.slots with
        q0 := { Slot.opened .q1 4 5 none with state := .ready } } })).host.tx = [.reply 133 9 [0, 5, 0]] := by decide +kernel

/-- The search of an odd row walks from the highest column down (R58). -/
theorem test_walk_is_serpentine :
    ((wafer .mounted).walk.map fun w => (w.row, w.col)) = [(0, 0), (0, 1), (1, 1), (1, 0)] := by decide +kernel

/-- The fine value 5 owns the indexes of its components 4 and 1 (Table 2-2). -/
theorem test_fine_value_five : (List.range 32).filter (extraQuantum 5) = [4, 12, 16, 20, 28] := by decide +kernel

/-- STEP's parameters are the site with the slot's offset (R54). -/
theorem test_step_parameters : stepParams { wafer .mounted with rowOffset := -3, colOffset := 2 } 1 0 = [254, 255, 2, 0] := by
  decide +kernel

def placement : Placement :=
  ⟨3000, .bonded, some .two, .q1, some id12, .q1, 3, 4, 12, 9, 7, some ⟨id12, 1, 30, 2⟩,
    some ⟨11, 4, -3, 2, -1, true, false, 12, 100, 200, 40, .good, .placed⟩⟩

/-- A placement record takes 48 bytes, its flags as Table 11-7 places them. -/
theorem test_placement_layout :
    placement.bytes.length = 48 ∧ placement.bytes.take 8 = [0xb8, 0x0b, 0x78, 0x95, 3, 4, 0x4c, 7] ∧
    placement.bytes.drop 32 = [30, 0x11, 11, 4, 253, 255, 2, 0, 255, 255, 40, 0, 12, 0x90, 0x81, 0x0c] := by decide +kernel

/-- Table 11-3: READ-CONDITION from start 5 steps past UNIT-STARVED. -/
theorem test_read_condition_steps_past_level_conditions :
    (after (exec (.readCondition 9 [5]) (withPending (.unitStarved .two 0 30 2 (some .group))
      (withPending (.stripDone (some id12) (some .accepted) 1 0 0 0) bench)))).host.tx =
      [.reply 242 9 ([0, 8] ++ id12 ++ [0, 1, 0, 0, 0, 0, 0, 0, 0] ++ [0, 0, 0, 1, 0, 0, 0, 0, 0])] := by decide +kernel

/-- A frame's bytes: the start byte, the length of kind to payload, and the check, least significant byte first. -/
theorem test_frame_layout :
    (frameBytes 112 9 [5]).take 6 = [195, 3, 0, 112, 9, 5] ∧ (frameBytes 112 9 [5]).length = 8 ∧
    stationFrameBytes 1 4 [0, 0, 0, 0] 9 = [90, 1, 4, 0, 0, 0, 0, 9] := by decide +kernel

/-! ## States that meet the statements' hypotheses: steps, resets, the command link -/

/-- EmptyQueueLetsTimePass: both supplies; a timer at 2 counts and a timer at 1 stays. -/
theorem test_witness_empty_queue :
    bench.pending = [] ∧ bench.powered = true ∧ dark.pending = [] ∧ dark.powered = false ∧
    (let t := after (step (bench.updLane .one fun r => { r with settleTimer := some 2 }))
     t.lanes.one.settleTimer = some 1 ∧ (after (step t)).lanes.one.settleTimer = some 1) := by decide +kernel

/-- EveryResetGivesTheResetValues: the reply to RESET-CELL is being sent. -/
def resetting : State :=
  { bench with host := { bench.host with resetDue := true, tx := [.reply 244 9 [0], .notice .log 3 []] } }

theorem test_witness_resets :
    bench.powered = true ∧ resetting.powered = true ∧ resetting.host.resetDue = true ∧
    resetting.host.tx = .reply 244 9 [0] :: [.notice .log 3 []] ∧
    (after (exec .recordSent resetting)).host.tx = [.started 0 .command] := by decide +kernel

theorem test_witness_supply_and_totality :
    bench.powered = true ∧ dark.powered = false ∧ (∀ a b, Instr.grant ≠ .powerOn a b) := by
  refine ⟨by decide +kernel, by decide +kernel, fun a b h => by cases h⟩

/-- BadFramesAreDiscarded: the lengths 1 and 243, the shortest gap at 115,200 baud, a wrong check, a full queue. -/
theorem test_witness_bad_frames :
    bench.powered = true ∧ (1#16).toNat < 2 ∧ 242 < (243#16).toNat ∧
    200 * 25000000 < 43403 * bench.host.rate.baud ∧ ¬ 200 * 25000000 < 43402 * bench.host.rate.baud ∧
    (long.drop 1).length ≤ 240 ∧ crc16 (frameBody 112 9 []) ≠ 0 ∧ 4 ≤ (withQueue 4 bench).host.queue.length := by
  decide +kernel

/-- GoodFramesAreQueuedOrTaken: three frames behind a reply, three behind STARTED; an idle link, a kind of the index and
a kind outside it. -/
theorem test_witness_good_frames :
    (let s := withQueue 3 (withTx [.reply 240 1 [0]] bench)
     s.powered = true ∧ s.host.queue.length < 4 ∧ s.host.replyWaits = true) ∧
    (let s := withQueue 3 (withTx [.started 0 .power] bench)
     s.host.queue.length < 4 ∧ s.host.startedWaits = true) ∧
    (let s := withTx [.notice .log 1 []] bench
     s.powered = true ∧ s.host.queue = [] ∧ s.host.replyWaits = false ∧ s.host.startedWaits = false) ∧
    (hostRow 116).isSome = true ∧ hostRow 117 = none ∧
    ((1#8).toNat + 256 * (0#8).toNat < 2 ∧ 242 < (243#8).toNat + 256 * (0#8).toNat) := by decide +kernel

/-- The bytes of Table 11-4 read back: an empty payload and one of 20 bytes, the lengths 1 and 243, a frame cut short. -/
theorem test_read_frame :
    readFrame (frameBytes 112 9 []) = some (.frameReceived 112 9 [] (crc16 (frameBody 112 9 []))) ∧
    readFrame (frameBytes 112 9 (long.drop 221)) =
      some (.frameReceived 112 9 (long.drop 221) (crc16 (frameBody 112 9 (long.drop 221)))) ∧
    readFrame [195, 1, 0] = some (.discardLength 1) ∧ readFrame [195, 243, 0] = some (.discardLength 243) ∧
    readFrame [195, 2, 0, 112] = none ∧ readFrame [90, 2, 0, 112, 9, 0, 0] = none := by decide +kernel

/-- RecordSentMovesOn: no frame waits; a frame waits behind another reply; a frame waits and may be taken, of a
kind of the index and of none. -/
theorem test_witness_record_sent :
    (let s := withTx [.reply 240 1 [0]] bench
     s.powered = true ∧ s.host.resetDue = false ∧ s.host.queue = []) ∧
    ({ bench.host with tx := [.reply 240 1 [0]] } : HostLink).replyWaits = true ∧
    ({ bench.host with tx := [.started 0 .pin] } : HostLink).startedWaits = true ∧
    (let s := withQueue 1 (withTx [.reply 240 1 [0], .notice .log 1 []] bench)
     ({ s.host with tx := [.notice .log 1 []] } : HostLink).replyWaits = false ∧
     ({ s.host with tx := [.notice .log 1 []] } : HostLink).startedWaits = false ∧
     s.host.queue = ⟨112, 1, []⟩ :: [] ∧ (hostRow 112).isSome = true) ∧
    (let s := withTx [.reply 240 1 [0]] { bench with host := { bench.host with queue := [⟨117, 1, []⟩] } }
     s.powered = true ∧ s.host.resetDue = false ∧ ({ s.host with tx := [] } : HostLink).replyWaits = false ∧
     ({ s.host with tx := [] } : HostLink).startedWaits = false ∧ s.host.queue = ⟨117, 1, []⟩ :: [] ∧
     hostRow 117 = none) := by decide +kernel

theorem test_witness_unknown_kinds : bench.powered = true ∧ hostRow 117 = none ∧ hostRow 127 = none ∧ hostRow 255 = none := by
  decide +kernel

/-- RaisingAConditionMakesOneNotice: pending; not pending with the enable clear, and set; nothing to send, and a notice of
the same condition waiting behind a reply, which is withdrawn. -/
theorem test_witness_raising :
    (let d : Detail := .linkDiscard .gap 1
     ((withPending d bench).conds.get d.cond).detail.isSome = true ∧
     (({ bench with conds := { bench.conds with linkDiscard := ⟨none, false⟩ } } : State).conds.get d.cond).enable = false ∧
     (bench.conds.get d.cond).detail = none ∧ (bench.conds.get d.cond).enable = true ∧ bench.host.tx = [] ∧
     (let s := withTx [.reply 240 1 [0], .notice .linkDiscard 0 [], .notice .log 1 []] bench
      (s.conds.get d.cond).detail = none ∧
      (raise d s).host.tx = [.reply 240 1 [0], .notice .log 1 [], .notice .linkDiscard 1 d.bytes])) := by decide +kernel

theorem test_witness_ping :
    bench.powered = true ∧ (long.drop 2).length ≤ 239 ∧ (long.drop 1).length = 240 := by decide +kernel

/-- ReadsChangeNothing: READ-UNITS from index 2, the length of the table; MAP-READ of the last row from column 0 and from
the last column. -/
theorem test_witness_reads :
    line.powered = true ∧ (2#8).toNat + 256 * (0#8).toNat ≤ line.strip.units.length ∧
    (line.slots.get .q0).state ≠ .empty ∧ (1#8).toNat < (line.slots.get .q0).rows ∧ 0 < (line.slots.get .q0).cols ∧
    (1#8).toNat < (line.slots.get .q0).cols := by decide +kernel

/-- ReadConditionReturnsTheFirstPending: nothing pending from start 9; an event condition, UNIT-STARVED and LOG first,
LOG with its level reached and not. -/
theorem test_witness_read_condition :
    bench.powered = true ∧ 1 ≤ (1#8).toNat ∧ (9#8).toNat ≤ 9 ∧
    (∀ k ∈ CondId.all, (9#8).toNat ≤ k.priority → (bench.conds.get k).detail = none) ∧
    (let d : Detail := .linkDiscard .gap 1
     ((withPending d bench).conds.get .linkDiscard).detail = some d ∧ (9#8).toNat ≤ CondId.linkDiscard.priority ∧
     ∀ j ∈ CondId.all, (1#8).toNat ≤ j.priority → j.priority < CondId.linkDiscard.priority →
       ((withPending d bench).conds.get j).detail = none) ∧
    (let d : Detail := .unitStarved .one 0 0 1 (some .noDie)
     ((withPending d bench).conds.get .unitStarved).detail = some d ∧ (4#8).toNat ≤ CondId.unitStarved.priority ∧
     ∀ j ∈ CondId.all, (4#8).toNat ≤ j.priority → j.priority < CondId.unitStarved.priority →
       ((withPending d bench).conds.get j).detail = none) ∧
    (let d : Detail := .log true false 512
     ((withPending d bench).conds.get .log).detail = some d ∧ (7#8).toNat ≤ CondId.log.priority ∧
     ∀ j ∈ CondId.all, (7#8).toNat ≤ j.priority → j.priority < CondId.log.priority →
       ((withPending d bench).conds.get j).detail = none) ∧
    (¬ bench.log.trigger ≤ bench.log.records.length ∧
     ({ bench with log := { bench.log with trigger := 128, records := List.replicate 128 placement } } : State).log.trigger ≤
       ({ bench with log := { bench.log with trigger := 128, records := List.replicate 128 placement } } : State).log.records.length) := by
  decide +kernel

/-! ## Wafer maps, classes, recipes -/

/-- MapRowsDeliversRows: one row entry for the last row, of a run of VOID and a run of bin 62. -/
theorem test_witness_map_rows :
    (let s := withSlot .loading bench
     let a : MapRowsArgs := ⟨0, 1, [[⟨1, 63⟩, ⟨1, 62⟩]]⟩
     s.powered = true ∧ readMapRows [0, 1, 1, 2, 127, 126] = some a ∧ a.slot = Quad.q0.number ∧
     (s.slots.get .q0).state = .loading ∧ a.first + a.entries.length ≤ (s.slots.get .q0).rows ∧
     ∀ e ∈ a.entries, (e.map (·.count)).sum = (s.slots.get .q0).cols ∧
       ∀ r ∈ e, 1 ≤ r.count ∧ r.count ≤ 255 ∧ r.bin ≤ 63) := by decide +kernel

/-- MapOpenCloseAndDrop: the largest grid, with and without an identity; a drop with and without a token; all rows
delivered with the count right and wrong; row 1 the lowest undelivered. -/
theorem test_witness_map_open_close_drop :
    ((bench.slots.get .q0).state = .empty ∧ 1 ≤ (128#8).toNat ∧ (128#8).toNat * (255#8).toNat ≤ 32768 ∧ id12.length = 12 ∧
      isText 12 id12 = true) ∧
    (let s := withSlot .ready bench
     (s.slots.get .q0).state = .ready ∧ (∀ t ∈ s.tokens, t.slot ≠ .q0) ∧
     ¬∀ t ∈ (withToken (.nest .one) s).tokens, t.slot ≠ .q0) ∧
    (let s := withSlot .loading bench
     s.powered = true ∧ (s.slots.get .q0).state = .loading ∧ (∀ r, r < (s.slots.get .q0).rows → r ∈ (s.slots.get .q0).delivered) ∧
     (s.slots.get .q0).count .present = (3#8).toNat + 256 * (0#8).toNat ∧
     (s.slots.get .q0).count .present ≠ (0#8).toNat + 256 * (128#8).toNat) ∧
    (let s := (withSlot .loading bench).updSlot .q0 fun sl => { sl with delivered := [0] }
     1 < (s.slots.get .q0).rows ∧ 1 ∉ (s.slots.get .q0).delivered ∧ ∀ q, q < 1 → q ∈ (s.slots.get .q0).delivered) := by
  decide +kernel

/-- MapMarkMarksTheRectangle: the last site, in each slot state and by each operation. -/
theorem test_witness_map_mark :
    ([SlotState.ready, .mounted, .unmounting].all fun st =>
      let s := withSlot st bench
      decide (s.powered = true ∧ (1#8).toNat ≤ (1#8).toNat ∧ (1#8).toNat < (s.slots.get .q0).rows ∧
        (1#8).toNat < (s.slots.get .q0).cols ∧ (s.slots.get .q0).state = st)) = true ∧
    markOpOf (0#8).toNat = some .add ∧ markOpOf (1#8).toNat = some .remove ∧ markOpOf (2#8).toNat = some .toggle ∧
    markOpOf (3#8).toNat = some .assign := by decide +kernel

/-- ClassCommands: bin 62 alone on either bank, in a STOPPED and in a RUNNING cell; class 15 alone; the last entry of a
bank and of the groups. -/
theorem test_witness_class_commands :
    (let a : SetBinsArgs := ⟨1, 62, [some (some 15)]⟩
     readSetBins [1, 62, 1, 1, 15] = some a ∧ a.bank = bankCode .one ∧ classEntries a.entries = some [some 15] ∧
     a.first + [some 15].length ≤ 63 ∧ Bank.one ≠ bench.classes.active ∧
     a.first + [some 15].length ≤ (bench.classes.bank .one).length) ∧
    (let a : SetBinsArgs := ⟨0, 62, [some none]⟩
     readSetBins [0, 62, 1, 0, 0] = some a ∧ a.bank = bankCode .zero ∧ classEntries a.entries = some [none] ∧
     Bank.zero = bench.classes.active) ∧
    bench.powered = true ∧ bench.control.cell = .stopped ∧ (withCell .held bench).control.cell = .held ∧
    line.control.cell ≠ .stopped ∧ line.control.cell ≠ .held ∧
    (15#8).toNat + [Quad.q3].length ≤ 16 ∧ (15#8).toNat + [Quad.q3].length ≤ bench.classes.groups.length := by
  decide +kernel

def recipeBytes : List Byte := [0xff, 0xff, 2, 2, 2, 2, 10, 5, 44, 1, 7, 100, 0, 200, 0, 20, 50, 1]

/-- StageRecipeStagesOrWithdraws: no recipe, the recipe above, and one whose window is crossed. -/
theorem test_witness_stage_recipe :
    bench.powered = true ∧
    (readStageRecipe (3 :: 0 :: List.replicate 18 0)).any (fun a => decide (a.dieType = Quad.q3.number ∧ a.recipePresent = 0)) = true ∧
    (readStageRecipe (0 :: 1 :: recipeBytes)).any (fun a => decide (a.dieType = Quad.q0.number ∧ a.recipePresent = 1 ∧
      a.fields.checked = some recipe ∧ recipe.windowLow ≤ recipe.windowHigh)) = true ∧
    (readStageRecipe (0 :: 1 :: recipeBytes.set 11 201)).any (fun a => decide (a.recipePresent = 1 ∧
      a.fields.checked = some { recipe with windowLow := 201 } ∧ recipe.windowHigh < 201)) = true := by decide +kernel

/-- PromoteMakesStagedRecipesActive: a staged recipe beside three types without; every cell state that refuses. -/
theorem test_witness_promote :
    (let s := { bench with recipes := { RecipeStore.reset with staged := ⟨none, some recipe, none, none⟩ } }
     s.powered = true ∧ s.control.cell = .stopped ∧ (withCell .held s).control.cell = .held ∧ s.strip.state = .none ∧
     s.recipes.staged.get .q0 = none ∧ s.recipes.staged.get .q1 = some recipe) ∧
    (withCell .running bench).control.cell = .running ∧ (withCell .holding bench).control.cell = .holding ∧
    (withCell .stopping bench).control.cell = .stopping ∧ (withStrip .active [] bench).strip.state ≠ .none := by
  decide +kernel

/-! ## Wafer tables and orders -/

/-- MountDismountAndUnload: a READY slot and an EMPTY table; a MOUNTED slot; an unload wanted with the picker empty, with a
TAKEN die and with a RESERVED site. -/
theorem test_witness_mount_dismount_unload :
    (let s := withSlot .ready bench
     s.powered = true ∧ s.control.cell ≠ .stopping ∧ (s.slots.get .q0).state = .ready ∧ (s.tables.get .a).state = .empty ∧
     (s.links.get (tableLink .a)).state = .up ∧
     ∀ j ∈ [Quad.q0, .q1, .q2, .q3], j ≠ .q0 → (s.slots.get j).dieType = (s.slots.get .q0).dieType →
       (s.slots.get j).state ≠ .mounted ∧ (s.slots.get j).state ≠ .mounting) ∧
    (line.powered = true ∧ line.control.cell ≠ .stopping ∧ (line.tables.get .a).state = .occupied ∧
     (line.tables.get .a).slot = some .q0 ∧ (line.slots.get .q0).state = .mounted) ∧
    (let s := line.updTable .a fun r => { r with unloadWanted := true }
     (s.tables.get .a).unloadWanted = true ∧ (s.links.get (tableLink .a)).state = .up ∧
     (s.links.get (tableLink .a)).outstanding = none ∧ s.tokenAt .picker = none ∧
     (let k := withToken .picker s
      k.tokenAt .picker = some (token .picker) ∧ (k.tables.get .a).slot = some (token .picker).slot ∧
      k.siteState (token .picker) ≠ some .reserved ∧
      (setSite (token .picker) .reserved k).siteState (token .picker) = some .reserved)) := by
  decide +kernel

/-- SlotIdentityAndOffset: both slot states that take an identity and one that does not, an identity with a character 127,
the offsets -16, -15, 15 and 16; a slot bound to a table whose link counts a test down to 1 and not. -/
theorem test_witness_slot_identity_and_offset :
    (bench.slots.get .q0).state ≠ .loading ∧ (bench.slots.get .q0).state ≠ .ready ∧ (bench.slots.get .q0).state = .empty ∧
    (id12.set 0 127).length = 12 ∧ isText 12 (id12.set 0 127) = false ∧ (0xf0#8).toInt < -15 ∧ 15 < (16#8).toInt ∧
    id12.length = 12 ∧ isText 12 id12 = true ∧ ((withSlot .loading bench).slots.get .q0).state = .loading ∧
    ((withSlot .ready bench).slots.get .q0).state = .ready ∧ ((withSlot .ready bench).slots.get .q0).state ≠ .empty ∧
    (withSlot .ready bench).powered = true ∧ -15 ≤ (0xf1#8).toInt ∧ (0xf1#8).toInt ≤ 15 ∧ (15#8).toInt ≤ 15 ∧
    line.tableOfSlot .q0 = some .a ∧ (line.links.get .ta).test ≠ 1 ∧
    ((line.updLink .ta fun r => { r with test := 1 }).links.get .ta).test = 1 := by
  decide +kernel

/-- WaferInDecidesTheMount: no identity expected, the expected one read with and without the lock, another one read. -/
theorem test_witness_wafer_in :
    (let s := withOrder .ta .loadWafer (withTable .loading (withSlot .mounting bench))
     s.powered = true ∧ s.awaits (tableLink .a) .loadWafer 7 ∧ (s.tables.get .a).slot = some .q0 ∧
     readIdOf 0 id12 = some (.read id12) ∧ readIdOf 1 id12 = some .unread ∧
     (s.slots.get .q0).identify (.read id12) = some (some id12)) ∧
    (let sl := { wafer .mounting with expectedId := some id12 }
     sl.expectedId = some id12 ∧ sl.idLock = false ∧ sl.identify (.read (id12.set 0 66)) = none ∧ id12.set 0 66 ≠ id12 ∧
     { sl with idLock := true }.idLock = true) := by
  unfold State.awaits; decide +kernel

theorem test_witness_wafer_out_and_aborted :
    (let s := withOrder .ta .unloadWafer (withTable .unloading (withSlot .unmounting bench))
     s.powered = true ∧ s.awaits (tableLink .a) .unloadWafer 7 ∧ (s.tables.get .a).slot = some .q0) ∧
    (let s := fun st => withOrder .ta .abort (withTable st (withSlot .mounting bench))
     (s .loading).awaits (tableLink .a) .abort 7 ∧ ((s .loading).tables.get .a).state = .loading ∧
     (s .unloading).awaits (tableLink .a) .abort 7 ∧ ((s .unloading).tables.get .a).state = .unloading) ∧
    (let s := withPicker .stepping (withToken .picker (withOrder .ta .abort line))
     (1#8).toNat ≤ 1 ∧ s.awaits (tableLink .a) .abort 7 ∧ (s.tables.get .a).state = .occupied ∧
     s.picker.state = .stepping ∧ s.tokenAt .picker = some (token .picker)) ∧
    (let s := withPicker .stepping (withOrder .ta .abort line)
     s.powered = true ∧ s.awaits (tableLink .a) .abort 7 ∧ (s.tables.get .a).state = .occupied ∧
     s.picker.state = .stepping ∧ s.tokenAt .picker = none) := by
  unfold State.awaits; decide +kernel

/-! ## Strips and units -/

/-- The bytes of `layout` as type 3, its second position on its first. -/
def typeBytes : List Byte := [3, 1, 1, 2, 2, 64, 31, 50, 0, 1, 2, 0, 0, 0, 0, 0, 0, 0, 0, 5, 0, 5, 0, 1, 1]

theorem test_witness_strip_types :
    bench.powered = true ∧ bench.control.cell = .stopped ∧ (withCell .held bench).control.cell = .held ∧
    line.control.cell ≠ .stopped ∧ line.control.cell ≠ .held ∧
    (readSetStripType (3 :: List.replicate 10 0)).any (fun a => decide (a.code = Quad.q3.number ∧ a.typePresent = 0)) = true ∧
    (readSetStripType typeBytes).any (fun a => decide (a.code = Quad.q3.number ∧ a.typePresent = 1 ∧
      a.checked = some layout ∧ stacksBelow 1 layout.positions = true)) = true := by decide +kernel

/-- ArrivedChecksTheStrip: each lock, each code, and the measured pitches at and beyond the tolerance; a layout of two
columns whose odd column descends. -/
theorem test_witness_arrived :
    (let s := withOrder .ix .loadStrip (withStrip .loading [] line)
     s.powered = true ∧ s.awaits .ix .loadStrip 7 ∧ isText 12 id12 = true ∧ (12#8).toNat ≤ 12 ∧ s.stripLock = none) ∧
    ({ bench with stripLock := some .q3 } : State).stripLock = some .q3 ∧ 3 < (4#8).toNat ∧
    layout.pitch + layout.tolerance < 8051 ∧ 7949 + layout.tolerance < layout.pitch ∧
    8050 ≤ layout.pitch + layout.tolerance ∧ layout.pitch ≤ 7950 + layout.tolerance ∧
    (∃ p ∈ layout.positions, RecipeStore.reset.active.get p.dieType = none) ∧
    (∀ p ∈ layout.positions, line.recipes.active.get p.dieType ≠ none) ∧ 1 < layout.rows * layout.cols := by
  unfold State.awaits; decide +kernel

/-- The unit table of a 2 by 2 layout split at column 1: column 0 down, column 1 up, one place named as an x-out (R72). -/
theorem test_unit_table_is_serpentine :
    (({ layout with rows := 2, cols := 2, split := 1 }.units false [(1, 1)]).map fun (u : StripUnit) => (u.index, u.row, u.col, u.lane, u.state)) =
      [(0, 0, 0, .one, .opened), (1, 1, 0, .one, .opened), (2, 1, 1, .two, .skipped), (3, 0, 1, .two, .opened)] := by
  decide +kernel

/-- StripOrders: each of the three steps' conditions, the states that stop them, and the reports on IX. -/
theorem test_witness_strip_orders :
    (let s := withCell .running bench
     s.powered = true ∧ s.strip.state = .none ∧ s.control.cell = .running ∧ s.links.ix.state = .up ∧
     s.links.ix.outstanding = none ∧ bench.control.cell ≠ .running) ∧
    (let s := { withStrip .active [unitDone] (withCell .running bench) with
       strip := { (withStrip .active [unitDone] bench).strip with done := true } }
     s.strip.state = .active ∧ s.strip.done = true ∧ s.control.cell = .running) ∧
    (let s := withStrip .active [unitDone] bench
     s.strip.state = .active ∧ s.strip.done = false ∧ s.tokens = [] ∧ (∀ u ∈ s.strip.units, u.resolved = true) ∧
     s.control.cell ≠ .running ∧ (withToken .picker s).tokens ≠ []) ∧
    (withOrder .ix .ejectStrip (withStrip .ejecting [unitDone] bench)).awaits .ix .ejectStrip 7 ∧
    (let s := fun st => withOrder .ix .abort (withStrip st [unitDone] bench)
     (s .loading).awaits .ix .abort 7 ∧ (s .loading).strip.state = .loading ∧
     (s .ejecting).awaits .ix .abort 7 ∧ (s .ejecting).strip.state = .ejecting) := by
  unfold State.awaits; decide +kernel

/-! ## The picker -/

/-- SearchFindsAnEligibleSite: a site found with no group wanted and with a group of class 1; each end without a site: a
FAULTED table, no class that the recipe accepts, a group that no class has. -/
theorem test_witness_search :
    search .q0 none line = .found .q0 0 0 (die 5) 1 .q0 ∧ search .q0 (some .q0) line = .found .q0 0 0 (die 5) 1 .q0 ∧
    search .q0 none (line.updTable .a fun r => { r with faulted := true }) = .unmounted ∧
    search .q0 none { line with classes := ClassTables.reset } = .noDie .q0 ∧ search .q0 (some .q3) line = .groupOnly := by
  decide +kernel

/-- GrantCreatesAToken: one lane requests; the log full to 1,023 with one reservation and full to 1,023 under STALL; each
end of the search. -/
theorem test_witness_grant :
    (laneOne.powered = true ∧ laneOne.picker.state = .idle ∧ laneOne.requests .one = true ∧
     laneOne.requests (otherLane .one) = false ∧ laneOne.strip.nextPosition .one = some ⟨0, 1⟩ ∧
     laneOne.unit 0 = some unitA ∧ unitA.position 1 = some (position .empty none) ∧ laneOne.log.policy = .stall) ∧
    (let full := { laneOne with log := { laneOne.log with reserved := 1024 } }
     1024 ≤ full.log.records.length + full.log.reserved ∧
     ({ laneOne with log := { laneOne.log with reserved := 1023 } } : State).log.records.length + 1023 < 1024) ∧
    ({ laneOne with log := { laneOne.log with policy := .overwrite } } : State).log.policy = .overwrite ∧
    search .q0 none laneOne = .found .q0 0 0 (die 5) 1 .q0 ∧ search .q0 none (withSlot .ready laneOne) = .unmounted ∧
    search .q0 (some .q3) laneOne = .groupOnly ∧
    search .q0 none { laneOne with classes := ClassTables.reset } = .noDie .q0 ∧ laneOne.tableOfSlot .q0 = some .a ∧
    ((after (exec .grant laneOne)).slots.get .q0).floorRow < ((after (exec .grant laneOne)).slots.get .q0).sites.length := by
  decide +kernel

/-- GrantCreatesAToken, both lanes requesting: one collet alone IDLE; both IDLE, and lane 2 next after lane 1; the three ends
of the first lane's grant, and of the second's after a failed one. -/
theorem test_witness_grant_of_both_lanes :
    (line.powered = true ∧ line.picker.state = .idle ∧ line.requests .one = true ∧ line.requests .two = true ∧
     (line.lanes.get .one).collet = .idle ∧ (line.lanes.get .two).collet = .idle ∧
     Lane.one = otherLane line.picker.lastLane ∧
     ((withCollet .bonding line).lanes.get .one).collet ≠ .idle ∧ (withCollet .bonding line).requests .one = true ∧
     (withCollet .bonding line).requests .two = true) ∧
    grantLane .one { line with log := { line.log with reserved := 1024 } } = .noRoom ∧
    (∃ t, grantLane .one line = .created t) ∧
    (let none := { line with classes := ClassTables.reset }
     ∃ t, grantLane .one none = .failed t ∧ ∃ v, grantLane .two t = .failed v) ∧
    (let s := line.updUnit 0 fun u => { u with group := some .q3 }
     ∃ t, grantLane .one s = .failed t ∧ ∃ v, grantLane .two t = .created v) := by
  refine ⟨by decide +kernel, rfl, ⟨_, rfl⟩, ⟨_, rfl, _, rfl⟩, _, rfl, _, rfl⟩

/-- A unit whose one position has its die coming, and one of lane 1 after it. -/
def unitFull : StripUnit := { unitA with state := .assembling, positions := [position .allocated none] }
def unitC : StripUnit := { unitB with lane := .one }

/-- GrantCreatesAToken, usability, requests and next positions: a lane enabled and not, DEGRADED, its link down, waiting
with and without the mark; a strip with no unresolved unit of the lane, one with an EMPTY position, one with none and no
second or a second after it. -/
theorem test_witness_requests_and_next_positions :
    line.usable .one = true ∧ laneOne.usable .two = false ∧
    (line.updLane .one fun r => { r with degraded := true }).usable .one = false ∧ (withLink .b1 .fault line).usable .one = false ∧
    (let s := line.updWait .one fun w => { w with waiting := true }
     s.requests .one = false ∧ { s with searchAgain := s.searchAgain.set .one true }.requests .one = true) ∧
    (withNest .ready line).requests .one = false ∧ (withCell .holding line).requests .one = false ∧
    (withStrip .active [unitDone, unitB] line).strip.nextPosition .one = none ∧
    (line.strip.units = [] ++ unitA :: [unitB] ∧ unitA.lane = .one ∧ unitA.resolved = false ∧
     (∃ p ∈ unitA.positions, p.state = .empty) ∧ unitB.lane ≠ .one) ∧
    ((∀ p ∈ unitFull.positions, p.state ≠ .empty) ∧ unitFull.resolved = false ∧ unitC.lane = .one ∧ unitC.resolved = false ∧
     (withStrip .active [unitFull, unitB] line).strip.nextPosition .one = none ∧
     (withStrip .active [unitFull, unitB, unitC] line).strip.nextPosition .one = some ⟨1, 1⟩) := by decide +kernel

/-- PickCycle: a STEP with the picker's token and with none, a PICK, and a PICK-FAIL that reaches the retry limit of 1 and one that exceeds it. -/
theorem test_witness_pick_cycle :
    (let s := withPicker .stepping (withToken .picker (withOrder .ta .step line))
     s.powered = true ∧ s.awaits (tableLink .a) .step 7 ∧ s.picker.state = .stepping ∧
     s.tokenAt .picker = some (token .picker)) ∧
    (let s := withPicker .stepping (withOrder .ta .step line)
     s.powered = true ∧ s.awaits (tableLink .a) .step 7 ∧ s.picker.state = .stepping ∧ s.tokenAt .picker = none) ∧
    (let s := setSite (token .picker) .reserved (withPicker .picking (withToken .picker (withOrder .pk .pick line)))
     s.awaits .pk .pick 7 ∧ s.picker.state = .picking ∧ s.tokenAt .picker = some (token .picker) ∧
     (s.slots.get .q0).site 0 0 = some ⟨.reserved, 5, noMarks, 0⟩ ∧ s.recipes.active.get .q0 = some recipe ∧
     s.tableOfSlot .q0 = some .a ∧ 0 + 1 ≤ recipe.retryLimit ∧ recipe.retryLimit < 1 + 1 ∧
     ((s.updSlot .q0 fun sl => sl.updSite 0 0 fun x => { x with attempts := 1 }).slots.get .q0).site 0 0 =
       some ⟨.reserved, 5, noMarks, 1⟩) := by
  unfold State.awaits; decide +kernel

/-- PickCycle, the removal of a token: the strip not finished; finished in a STOPPED cell, and in a RUNNING cell with IX free. -/
theorem test_witness_removal :
    (let finished (s : State) : Prop := s.strip.state = .active ∧ s.strip.done = false ∧ (∀ u ∈ s.strip.units, u.resolved = true) ∧
       s.tokens.filter (fun u => decide (u.place ≠ (token .picker).place)) = []
     ¬ finished (withToken .picker line) ∧ finished (withToken .picker (withStrip .active [unitDone] bench)) ∧
     finished (withToken .picker (withStrip .active [unitDone] line))) ∧
    bench.control.cell ≠ .running ∧ line.control.cell = .running ∧ line.links.ix.state = .up ∧
    line.links.ix.outstanding = none := by decide +kernel

/-- Releasing and giving up the die of a RESERVED site: PRESENT again or MISSED, the reservation back, the token gone (R17,
R19). -/
theorem test_release_and_miss :
    (let s := after (exec .grant laneOne)
     (releaseToken (token .picker) s).siteState (token .picker) = some .present ∧
     (releaseToken (token .picker) s).log.reserved = 0 ∧ (releaseToken (token .picker) s).tokens = [] ∧
     (missToken (token .picker) s).siteState (token .picker) = some .missed ∧
     ((missToken (token .picker) s).unit 0).map (·.state) = some .opened) := by decide +kernel

/-- PutDoneAndDropped: a settle interval of 0 and of 1, the bonder link UP and not. -/
theorem test_witness_put_done_and_dropped :
    (let s := withPicker .putting (withToken .picker (withOrder .pk .put line))
     s.powered = true ∧ s.awaits .pk .put 7 ∧ s.picker.state = .putting ∧ s.tokenAt .picker = some (token .picker) ∧
     (s.links.get (bonderLink (token .picker).lane)).state = .up ∧ 0 < (s.lanes.get .one).settle ∧
     ((s.updLane .one fun r => { r with settle := 0 }).lanes.get .one).settle = 0 ∧
     ((withLink .b1 .fault s).links.get (bonderLink (token .picker).lane)).state ≠ .up) ∧
    ((withNest .receiving line).lanes.get .one).nest = .receiving ∧ (line.lanes.get .one).nest ≠ .receiving ∧
    (moveToken (token .picker) (.nest .one) (withToken .picker line)).tokens = [token (.nest .one)] := by
  unfold State.awaits; decide +kernel

theorem test_witness_aborted_and_purged_on_pk :
    (let s := withPicker .aborting (withToken .picker (withOrder .pk .abort line))
     s.powered = true ∧ s.awaits .pk .abort 7 ∧ s.picker.state = .aborting ∧ s.tokenAt .picker = some (token .picker) ∧
     (setSite (token .picker) .reserved s).siteState (token .picker) = some .reserved ∧
     (setSite (token .picker) .taken s).siteState (token .picker) = some .taken) ∧
    (let s := withPicker .purging (withToken .picker (withOrder .pk .purge line))
     s.awaits .pk .purge 7 ∧ s.picker.state = .purging ∧ s.tokenAt .picker = some (token .picker)) := by
  unfold State.awaits; decide +kernel

def records (n : Nat) : List Placement := List.replicate n placement

/-- CreatingAPlacementRecord: room for one record and none under OVERWRITE, a token with and without a destination, a bond
context; LEVEL at the trigger and below it, AGED holding and not. -/
theorem test_witness_creating_a_record :
    (records 1023).length < 1024 ∧ 1024 ≤ (records 1024).length ∧ { token .picker with dest := none }.dest = none ∧
    (some ⟨0, 0, 0, 1, 10, 3⟩ : Option BondContext) = some ⟨0, 0, 0, 1, 10, 3⟩ ∧ line.strip.stripId = some id12 ∧
    (token .picker).dest = some ⟨0, 1⟩ ∧ line.unit 0 = some unitA ∧
    ({ line with log := { line.log with policy := .overwrite, records := records 1024 } } : State).log.policy = .overwrite ∧
    line.log.trigger ≤ (records 512).length ∧ ¬line.log.trigger ≤ (records 511).length ∧ line.log.aged = false ∧
    { line.log with aged := true }.aged = true := by decide +kernel

/-- LOG is raised with the cause that holds, and ceases when neither does (R148, R149). -/
theorem test_log_follows_its_causes :
    (syncLog { line with log := { line.log with aged := true } }).conds.log.detail = some (.log false true 0) ∧
    (syncLog (withPending (.log true false 512) line)).conds.log.detail = none := by decide +kernel

/-! ## Bond lanes and force monitors -/

/-- LaneCommands: the thresholds 1 and 63, the mask of one lane and of the other. -/
theorem test_witness_lane_commands :
    bench.powered = true ∧ 1 ≤ (1#8).toNat ∧ (63#8).toNat ≤ 63 ∧ (1#8).toNat.testBit 0 = true ∧
    (2#8).toNat.testBit 1 = true := by decide +kernel

/-- NestSteps: a settling nest whose timer runs, a nest that does not settle, a READY nest to take in RUNNING and in
HOLDING, a BLOCKED nest and a settling and a READY nest while STOPPING. -/
theorem test_witness_nest_steps :
    (let s := line.updLane .one fun r => { r with nest := .settling, settleTimer := some 1 }
     s.powered = true ∧ (s.lanes.get .one).nest = .settling ∧ (s.lanes.get .one).settleTimer.isSome = true ∧
     s.control.cell ≠ .stopping ∧ (line.lanes.get .one).nest ≠ .settling ∧ (withCell .stopping s).control.cell = .stopping ∧
     after (exec (.settleExpiry .one) (withCell .stopping s)) = withCell .stopping s) ∧
    (let s := withNest .ready line
     (s.links.get (bonderLink .one)).state = .up ∧ (s.links.get (bonderLink .one)).outstanding = none ∧
     (s.lanes.get .one).collet = .idle ∧ (s.lanes.get .one).nest = .ready ∧ s.control.cell = .running ∧
     (withCell .holding s).control.cell = .holding ∧ (withCell .stopping s).control.cell = .stopping) ∧
    (let s := withCell .stopping (withNest .settling line)
     (s.lanes.get .one).nest = .settling ∧ s.control.cell = .stopping) ∧
    ((withNest .blocked bench).lanes.get .one).nest = .blocked := by decide +kernel

/-- TakenAndTouched: a token without and with a destination; a bond under way. -/
theorem test_witness_taken_and_touched :
    (let s := withCollet .taking (withToken (.nest .one) (withOrder .b1 .take line))
     s.powered = true ∧ s.awaits (bonderLink .one) .take 7 ∧ (s.lanes.get .one).collet = .taking ∧
     s.tokenAt (.nest .one) = some (token (.nest .one)) ∧ (token (.nest .one)).dest = some ⟨0, 1⟩ ∧
     s.unit 0 = some unitA ∧ unitA.position 1 = some (position .empty none) ∧ s.recipes.active.get .q0 = some recipe) ∧
    (let t := { token (.nest .one) with dest := none }
     ({ line with tokens := [t] } : State).tokenAt (.nest .one) = some t ∧ t.dest = none) ∧
    (let s := withCollet .bonding (withToken (.collet .one) (withOrder .b1 .bond line))
     s.awaits (bonderLink .one) .bond 7 ∧ (s.lanes.get .one).collet = .bonding) := by
  unfold State.awaits; decide +kernel

def context : BondContext := ⟨0, 0, 0, 1, 10, 3⟩

theorem test_witness_bonded :
    (let s := (withCollet .dwell (withToken (.collet .one) (withOrder .b1 .bond line))).updLane .one fun r =>
       { r with bond := some context }
     s.powered = true ∧ s.awaits (bonderLink .one) .bond 7 ∧ (s.lanes.get .one).collet = .dwell ∧
     s.tokenAt (.collet .one) = some (token (.collet .one)) ∧ s.recipes.active.get .q0 = some recipe ∧
     (s.lanes.get .one).bond = some context) := by
  unfold State.awaits; decide +kernel

/-- A unit under assembly whose first position has its die coming. -/
def unitMid : StripUnit :=
  { unitA with state := .assembling, group := some .q0, positions := [position .allocated none, position .empty (some 1)] }

/-- BondedSettlesTheDie: a token without a destination, with an ALLOCATED position and with an EMPTY one; a stack on a lower
position; and what each end of the position makes of the unit: the stack ABANDONED, OPEN again, FLAWED and COMPLETE. -/
theorem test_witness_settling :
    ({ token .picker with dest := none }.dest = none ∧ (token .picker).dest = some ⟨0, 1⟩ ∧
     (withStrip .active [unitMid, unitB] line).unit 0 = some unitMid ∧
     unitMid.position 1 = some (position .allocated none) ∧ line.unit 0 = some unitA ∧
     unitA.position 1 = some (position .empty none) ∧ (position .empty none).state ≠ .allocated) ∧
    (∀ (j b : Nat) (p : Position), unitMid.positions[j]? = some p → p.stackOn = some b → 1 ≤ b ∧ b ≤ j) ∧
    unitMid.setPosition 1 .suspect =
      { unitMid with state := .flawed, positions := [position .suspect none, position .abandoned (some 1)] } ∧
    unitMid.setPosition 1 .empty = unitA ∧
    (unitMid.setPosition 1 .placed).state = .assembling ∧
    ((unitMid.setPosition 1 .placed).setPosition 2 .placed).state = .complete := by
  refine ⟨by decide +kernel, ?_, by decide +kernel⟩
  intro j b p hj hb
  match j with
  | 0 => cases hj; cases hb
  | 1 => cases hj; cases hb; decide
  | _ + 2 => cases hj

/-- A monitor in a dwell of one reading. -/
def dwelling (lo hi : Nat) : Monitor :=
  { Monitor.reset with state := .dwell, count := 1, dwellMin := some lo, dwellMax := some hi }

/-- BondVerdictsAndTheFaultCount: the offset at and beyond the limits, the force at and beyond the window (Table 7-3), the
count below and at the threshold. -/
theorem test_witness_bond_verdicts :
    offsetFault recipe 20 (-20) 50 true = false ∧ offsetFault recipe 21 0 0 true = true ∧
    offsetFault recipe 0 0 (-51) true = true ∧ offsetFault recipe 0 0 0 false = true ∧
    (dwelling 100 200).verdict recipe = .good ∧ (dwelling 99 201).verdict recipe = .low ∧
    (dwelling 100 201).verdict recipe = .high ∧ { dwelling 100 200 with count := 0 }.verdict recipe = .unmeasured ∧
    { dwelling 100 200 with state := .spoiled }.verdict recipe = .unmeasured ∧
    { dwelling 100 200 with state := .unwatched }.verdict recipe = .notMonitored ∧
    (let s := bench.updLane .one fun r => { r with offsetFailures := 7 }
     min 255 ((bench.lanes.get .one).offsetFailures + 1) < (bench.lanes.get .one).threshold ∧
     (s.lanes.get .one).threshold ≤ min 255 ((s.lanes.get .one).offsetFailures + 1) ∧ (s.lanes.get .one).degraded = false) := by
  decide +kernel

/-- PurgesAndAbortsOfABonder: a purge of the nest without and with a token, of the collet; each abort origin. -/
theorem test_witness_purges_and_aborts :
    (let s := withCollet .purging (withPurge .nest (withOrder .b1 .purge line))
     s.powered = true ∧ s.awaits (bonderLink .one) .purge 7 ∧ (s.lanes.get .one).collet = .purging ∧
     (s.lanes.get .one).purge = some .nest ∧ s.tokenAt (.nest .one) = none ∧
     (withToken (.nest .one) s).tokenAt (.nest .one) = some (token (.nest .one)) ∧
     ((withPurge .collet s).lanes.get .one).purge = some .collet ∧
     (withToken (.collet .one) s).tokenAt (.collet .one) = some (token (.collet .one))) ∧
    (let s := withCollet .aborting (withOrder .b1 .abort line)
     s.awaits (bonderLink .one) .abort 7 ∧ (s.lanes.get .one).collet = .aborting ∧
     ((withOrigin .taking s).lanes.get .one).abort = some .taking ∧ ((withOrigin .bonding s).lanes.get .one).abort = some .bonding ∧
     ((withOrigin .dwell s).lanes.get .one).abort = some .dwell) := by
  unfold State.awaits; decide +kernel

theorem test_witness_force_and_conversions :
    bench.powered = true ∧ (1#8).toNat.testBit 0 = true ∧ (2#8).toNat.testBit 1 = true ∧
    (bench.monitors.get .one).enable = true ∧ (bench.monitors.get .one).state = .idle ∧
    (let s := bench.updMonitor .one fun _ => dwelling 100 200
     (s.monitors.get .one).enable = true ∧ (s.monitors.get .one).state = .dwell ∧ (s.monitors.get .one).state ≠ .idle) ∧
    (bench.monitors.get .one).state ≠ .dwell ∧
    ((bench.updMonitor .one fun m => { m with enable := false }).monitors.get .one).enable = false := by decide +kernel

/-- A monitor that SET-FORCE disables in an open dwell holds no sample and no fresh flag from then on (R132). -/
theorem test_disabled_in_a_dwell :
    (let s := bench.updMonitor .one fun _ => { dwelling 100 200 with latest := some 40, fresh := true }
     (after (exec (.setForce 9 [1, 0, Gain.x1.code]) s)).monitors.one =
       { dwelling 100 200 with enable := false, state := .spoiled, latest := none, fresh := false }) := by decide +kernel

/-- The conversions at 1023 counts and beyond, and a reading below the tare (R135). -/
theorem test_conversions :
    ((after (exec (.idleConversion .one 2000) bench)).monitors.get .one).latest = some 1023 ∧
    ((after (exec (.dwellConversion .one 90) (bench.updMonitor .one fun _ => { dwelling 100 200 with tare := 100 }))).monitors.get .one) =
      { dwelling 0 200 with tare := 100, count := 2 } := by decide +kernel

/-! ## Placement log and production control -/

/-- LogCommands: the trigger and age bytes, the policy held and the other, n of 1 and 4, the age timer running and not. -/
theorem test_witness_log_commands :
    bench.powered = true ∧ nat16 128 0 = 128 ∧ nat16 0 1 = 256 ∧ nat16 0 2 = 512 ∧ nat16 128 3 = 896 ∧ 1 ≤ (1#8).toNat ∧
    (4#8).toNat ≤ 4 ∧ Policy.stall = line.log.policy ∧ Policy.overwrite ≠ line.log.policy ∧ line.control.cell ≠ .stopped ∧
    bench.control.cell = .stopped ∧ bench.log.ageTimer = none ∧
    ({ bench with log := { bench.log with ageTimer := some 1 } } : State).log.ageTimer.isSome = true := by decide +kernel

/-- RunAndHold: both gatings with as many lanes as each needs, both strip states, each state that refuses. -/
theorem test_witness_run_and_hold :
    (bench.powered = true ∧ bench.control.cell = .stopped ∧ (withCell .held bench).control.cell = .held ∧
     bench.links.pk.state = .up ∧ bench.links.ix.state = .up ∧ bench.usable .one = true ∧ bench.usable .two = true ∧
     bench.strip.state = .none ∧ (withStrip .active [] bench).strip.state = .active) ∧
    (let s := withLink .b2 .fault { bench with control := { bench.control with gating := .any } }
     s.control.gating = .any ∧ s.usable .one = true ∧ s.usable .two = false) ∧
    line.control.cell = .running ∧ (withCell .holding bench).control.cell = .holding ∧
    (withCell .stopping bench).control.cell = .stopping ∧ (withLink .pk .fault bench).links.pk.state ≠ .up ∧
    (withLink .ix .fault bench).links.ix.state ≠ .up ∧ (withStrip .loading [] bench).strip.state = .loading ∧
    (withStrip .ejecting [] bench).strip.state = .ejecting ∧
    (let s := withLink .b2 .fault bench
     s.control.gating = .all ∧ (s.usable .one = false ∨ s.usable .two = false)) ∧
    (let s := withLink .b1 .fault (withLink .b2 .fault { bench with control := { bench.control with gating := .any } })
     s.control.gating = .any ∧ s.usable .one = false ∧ s.usable .two = false) := by decide +kernel

/-- RunAndHold, an event of a RUNNING cell: PK left UP; a lane became unusable under ALL, under ANY with the other unusable
and under ANY with the other usable; nothing of the kind. -/
theorem test_witness_automatic_holds :
    (line.control.cell = .running ∧ (line.links.get .pk).state = .up ∧ ((withLink .pk .fault line).links.get .pk).state ≠ .up) ∧
    (let s := withLink .b1 .fault line
     line.control.gating = .all ∧ line.usable .one = true ∧ s.usable .one = false ∧ s.control.gating = .all ∧
     (line.links.get .ix).state = .up ∧ (s.links.get .ix).state = .up ∧ (s.links.get .pk).state = .up) ∧
    (let any := { line with control := { line.control with gating := .any } }
     let s := withLink .b1 .fault any
     any.usable .one = true ∧ s.usable .one = false ∧ s.usable .two = true ∧ s.control.gating = .any ∧
     (withLink .b2 .fault s).usable .two = false ∧
     (closeEvent any s).control.cell = .running ∧
     (closeEvent any (withLink .b2 .fault s)).control.holdCause = some .lane) := by decide +kernel

/-- An order on every link but TB, the collet of lane 1 in its dwell and lane 2 purging. -/
def busy : State :=
  withCollet .dwell (withOrder .ix .loadStrip (withOrder .b1 .bond (withOrder .pk .put (withOrder .ta .step
    (withOrder .b2 .purge (line.updLane .two fun r => { r with collet := .purging }))))))

/-- StopAbortsTheOrders: an order of each kind that STOP replaces, a purge that it leaves and a link with none, each collet
that has an abort origin; the cell states that take it and that do not. -/
theorem test_witness_stop :
    (busy.powered = true ∧ busy.control.cell = .running ∧ (busy.links.get .ta).outstanding = some ⟨.step, 7⟩ ∧
     (busy.links.get .pk).outstanding = some ⟨.put, 7⟩ ∧ (busy.links.get .b1).outstanding = some ⟨.bond, 7⟩ ∧
     (busy.links.get .b2).outstanding = some ⟨.purge, 7⟩ ∧ (busy.links.get .ix).outstanding = some ⟨.loadStrip, 7⟩ ∧
     (busy.links.get .tb).outstanding = none ∧ (busy.lanes.get .one).collet = .dwell ∧ (busy.lanes.get .two).collet = .purging ∧
     ((withCollet .taking busy).lanes.get .one).collet = .taking ∧ ((withCollet .bonding busy).lanes.get .one).collet = .bonding ∧
     (busy.control.waits.get .one).starved = false ∧ (busy.control.waits.get .two).starved = false) ∧
    (withCell .holding bench).control.cell = .holding ∧ (withCell .held bench).control.cell = .held ∧
    bench.control.cell = .stopped ∧ (withCell .stopping bench).control.cell = .stopping := by decide +kernel

/-- STOP sends one ABORT on each of four links and leaves the PURGE and the link with no order (R158). -/
theorem test_stop_sends_aborts :
    (let t := after (exec (.stop 9 []) busy)
     t.wire = [LineEvent.frame .ta 0 12 [] (crc8 [0, 12]), .frame .pk 0 12 [] (crc8 [0, 12]), .frame .b1 0 12 [] (crc8 [0, 12]),
       .frame .ix 0 12 [] (crc8 [0, 12])] ∧
     t.links.pk.outstanding = some ⟨.abort, 0⟩ ∧ t.links.pk.watchdog = some (10 * t.limits.abort) ∧ t.links.pk.nextNumber = 1 ∧
     t.links.b2 = busy.links.b2 ∧ t.lanes.one.abort = some .dwell ∧ t.picker.state = .aborting) := by decide +kernel

/-- SetCellRelaxAndVoid: the timeout 1, the gating byte 2, a unit at the first place, resolved and not. -/
theorem test_witness_set_cell_relax_void :
    bench.powered = true ∧ 1 ≤ (1#8).toNat ∧ 2 ≤ (2#8).toNat ∧ bench.control.cell = .stopped ∧ line.control.cell ≠ .stopped ∧
    line.strip.state = .active ∧ (0#8).toNat ≤ 7 ∧ (0#8).toNat ≤ 39 ∧
    line.strip.unitAt (0#8).toNat (0#8).toNat = some unitA ∧ unitA.resolved = false ∧
    (withStrip .active [unitDone] line).strip.unitAt (0#8).toNat (0#8).toNat = some unitDone ∧ unitDone.resolved = true := by
  decide +kernel

def waitingOne (s : State) : State :=
  s.updWait .one fun _ => ⟨true, some .noDie, some ⟨0, 1⟩, some 1, false⟩

/-- Lane 1 waits and is starved, and so may lane 2 be. -/
def starvedOne (other : Bool) (s : State) : State :=
  (s.updWait .one fun _ => ⟨true, some .noDie, some ⟨0, 1⟩, none, true⟩).updWait .two fun _ =>
    ⟨other, some .group, some ⟨1, 1⟩, none, other⟩

/-- ControlSteps: each step's conditions, and each condition that stops it; a failed search of a lane not waiting, of one
waiting, and of a starved one with its reason and with another. -/
theorem test_witness_control_steps :
    (let s := withCell .holding bench
     s.powered = true ∧ s.control.cell = .holding ∧ s.tokens = [] ∧ s.links.ix.outstanding = none ∧
     bench.control.cell ≠ .holding ∧ (withToken .picker s).tokens ≠ [] ∧
     (withOrder .ix .loadStrip s).links.ix.outstanding ≠ none) ∧
    (let s := withCell .stopping bench
     s.control.cell = .stopping ∧ s.tokens = [] ∧
     (∀ l ∈ [Link.ta, .tb, .pk, .b1, .b2, .ix], (s.links.get l).outstanding = none) ∧
     bench.control.cell ≠ .stopping ∧ ((withOrder .b2 .purge s).links.get .b2).outstanding ≠ none) ∧
    (let s := withLink .b2 .fault { line with control := { line.control with gating := .any } }
     s.control.gating = .any ∧ s.strip.state = .active ∧ s.usable .one = true ∧ s.usable (otherLane .one) = false ∧
     s.control.waits.one.waiting = false ∧ s.control.waits.two.waiting = false ∧
     ((waitingOne s).control.waits.get .one).waiting = true) ∧
    ((starvedOne false line).control.waits.get .one).waiting = true ∧
    ((starvedOne false line).control.waits.get .one).starved = true ∧
    ((starvedOne false line).control.waits.get (otherLane .one)).starved = false ∧
    ((starvedOne true line).control.waits.get (otherLane .one)).starved = true ∧
    ((starvedOne true line).control.waits.get (otherLane .one)).position = some ⟨1, 1⟩ ∧ line.unit 1 = some unitB ∧
    ((waitingOne line).control.waits.get .one).starved = false ∧
    ((waitingOne line).control.waits.get .one).position = some ⟨0, 1⟩ ∧ line.unit 0 = some unitA ∧
    (line.control.waits.get .one).waiting = false ∧
    ((waitingOne line).control.waits.get .one).waiting = true ∧
    ((waitingOne line).control.waits.get .one).timer.isSome = true ∧ (line.control.waits.get .one).timer = none ∧
    ((starvedOne false line).control.waits.get .one).reason = some .noDie ∧ some WaitReason.noDie ≠ some .group ∧
    (starvedOne false line).strip.nextPosition .one = some ⟨0, 1⟩ ∧ (starvedOne false line).unit 0 = some unitA := by
  decide +kernel

/-- A starved lane whose reason changes raises UNIT-STARVED again; a lane that was not waiting starts its timer (R162,
R163). -/
theorem test_enter_wait :
    (enterWait .one .group (starvedOne false line)).conds.unitStarved.detail = some (.unitStarved .one 0 0 1 (some .group)) ∧
    (enterWait .one .noDie (starvedOne false line)).conds = line.conds ∧
    (enterWait .one .group line).control.waits.one = ⟨true, some .group, some ⟨0, 1⟩, some 20000, false⟩ ∧
    (enterWait .one .group (waitingOne line)).control.waits.one = ⟨true, some .group, some ⟨0, 1⟩, some 1, false⟩ := by
  decide +kernel

/-! ## Station links -/

/-- Hunting: the thresholds 1 and 15 on a DISABLED link, a hunting link in a break and not, a faulted link, and the states
RESET-LINK refuses. -/
theorem test_witness_hunting :
    (let s := withLink .ta .disabled bench
     s.powered = true ∧ (s.links.get .ta).state = .disabled ∧ 1 ≤ (1#8).toNat ∧ (15#8).toNat ≤ 15) ∧
    (let s := withLink .ta .hunting bench
     (s.links.get .ta).state = .hunting ∧ (s.links.get .ta).breakTimer = none ∧
     ((s.updLink .ta fun r => { r with breakTimer := some 1 }).links.get .ta).breakTimer.isSome = true) ∧
    ((withLink .ta .fault bench).links.get .ta).state = .fault ∧ (bench.links.get .ta).state = .up ∧
    (bench.links.get .ta).state ≠ .disabled := by decide +kernel

/-- LinkCommands: DISABLE-LINK at rest and not; an identity, unlock, and a character 31; n of 1 and 8; the limit 1. -/
theorem test_witness_link_commands :
    line.powered = true ∧ line.control.cell ≠ .stopped ∧ line.control.cell ≠ .held ∧ bench.control.cell = .stopped ∧
    (withCell .held bench).control.cell = .held ∧ id8.length = 8 ∧ isText 8 id8 = true ∧
    (id8.set 7 31).length = 8 ∧ isText 8 (id8.set 7 31) = false ∧ (1#8).toNat = 1 ∧
    (8#8).toNat ≤ 8 ∧ 1 ≤ nat16 1 0 := by decide +kernel

/-- HelloBringsALinkUp: a right kind with no lock, with the lock's identity, another identity; a wrong kind; UP and FAULT; a
FAULTED table OCCUPIED with its slot MOUNTED, and others. -/
theorem test_witness_hello :
    (let s := withLink .ta .hunting bench
     s.powered = true ∧ (s.links.get .ta).breakTimer = none ∧ (s.links.get .ta).state = .hunting ∧ (1 : Byte) ≠ stationKind .ta ∧
     (0 : Byte) = stationKind .ta ∧ isText 8 id8 = true ∧ isText 8 (id8.set 0 127) = false ∧ (s.links.get .ta).locked = none ∧
     (let t := s.updLink .ta fun r => { r with locked := some id8 }
      (t.links.get .ta).locked = some id8 ∧ id8 ≠ id8.set 0 65)) ∧
    (bench.links.get .ta).state = .up ∧ ((withLink .ta .fault bench).links.get .ta).state = .fault ∧
    ((withLink .ta .disabled bench).links.get .ta).state = .disabled ∧
    (let s := line.updTable .a fun r => { r with faulted := true }
     (s.tables.get .a).faulted = true ∧ (s.tables.get .a).state = .occupied ∧ (s.tables.get .a).slot = some .q0 ∧
     (s.slots.get .q0).state = .mounted ∧ ((withSlot .ready s).slots.get .q0).state ≠ .mounted ∧
     (linkUp .ta (s.updWait .one fun w => { w with waiting := true })).searchAgain = ⟨true, false⟩ ∧
     (line.tables.get .a).faulted = false ∧ (bench.tables.get .a).state ≠ .occupied) := by decide +kernel

/-- BadStationFramesAreCounted: a wrong check, the kinds 63 and 80, a count that becomes the threshold and one that does
not, a break and a DISABLED link. -/
theorem test_witness_bad_station_frames :
    bench.powered = true ∧ (bench.links.get .ta).state ≠ .disabled ∧ (bench.links.get .ta).breakTimer = none ∧
    crc8 [0, 68] ≠ 0 ∧ (63#8).toNat < 64 ∧ 79 < (80#8).toNat ∧
    min 255 ((bench.links.get .ta).crcCount + 1) ≠ (bench.links.get .ta).crcThreshold ∧
    (let s := bench.updLink .ta fun r => { r with crcCount := 3 }
     (s.links.get .ta).state ≠ .fault ∧ min 255 ((s.links.get .ta).crcCount + 1) = (s.links.get .ta).crcThreshold) ∧
    ((withLink .ta .disabled bench).links.get .ta).state = .disabled ∧
    ((bench.updLink .ta fun r => { r with breakTimer := some 1 }).links.get .ta).breakTimer.isSome = true := by decide +kernel

/-- The bytes of Table 11-8 read as the row of their kind: the longest report, two-byte fields least significant byte first,
PURGED and ABORTED on the link that owns them; a wrong check and a kind that names no report are discards. -/
theorem test_read_station_frame :
    readStationFrame .b1 (stationFrameBytes 3 74 [253, 255, 2, 1, 0, 0, 1] (crc8 [3, 74, 253, 255, 2, 1, 0, 0, 1])) =
      some (.bonded .b1 3 (-3) 258 0 1) ∧
    readStationFrame .ix (stationFrameBytes 3 76 (id12 ++ [2, 64, 31, 1] ++ List.replicate 24 5)
      (crc8 ([3, 76] ++ id12 ++ [2, 64, 31, 1] ++ List.replicate 24 5))) =
      some (.arrived .ix 3 id12 2 8000 1 (List.replicate 12 (5, 5))) ∧
    readStationFrame .pk (stationFrameBytes 3 75 [] (crc8 [3, 75])) = some (.purgedOnPk 3) ∧
    readStationFrame .b2 (stationFrameBytes 3 78 [1] (crc8 [3, 78, 1])) = some (.abortedBonder .two 3 1) ∧
    readStationFrame .ta (stationFrameBytes 3 67 [] (crc8 [3, 67] + 1)) = some (.stationFrameDiscard .ta 3 67 [] (crc8 [3, 67] + 1)) ∧
    readStationFrame .ta (stationFrameBytes 3 80 [] (crc8 [3, 80])) = some (.stationFrameDiscard .ta 3 80 [] (crc8 [3, 80])) := by
  decide +kernel

/-- A report is read from as many parameter bytes as well-formedness asks of its kind, and from no other number. -/
theorem test_report_lengths :
    (List.range 16).all (fun k => (List.range 41).all fun n =>
      (reportRow .ta 3 (u8 (64 + k)) (List.replicate n 0)).any Instr.wf == reportLength (64 + k) n) = true := by
  decide +kernel

/-- FaultsOfALink: an order with its watchdog running, no watchdog, and reports that do not fit on PK and on a bonder; an
order on a table link, on IX and an ABORT on each, and parameters out of range at their bounds. -/
theorem test_witness_faults_of_a_link :
    (let s := withOrder .pk .pick line
     s.powered = true ∧ s.awaits .pk .pick 7 ∧ (s.links.get .pk).watchdog.isSome = true ∧ OrderKind.pick ≠ .put ∧
     OrderKind.pick ≠ .purge ∧ s.picker.state ≠ .picking) ∧
    (line.links.get .pk).watchdog = none ∧
    (let s := withOrder .b1 .bond line
     s.awaits (bonderLink .one) .bond 7 ∧ OrderKind.bond ≠ .take ∧ OrderKind.bond ≠ .purge ∧
     (s.lanes.get .one).collet ≠ .bonding ∧ (s.lanes.get .one).collet ≠ .dwell) ∧
    ((withOrder .ta .step line).awaits .ta .step 7 ∧ OrderKind.step ≠ .loadWafer ∧ OrderKind.step ≠ .unloadWafer ∧
     (withOrder .ta .loadWafer line).awaits .ta .loadWafer 7 ∧ 2 ≤ (2#8).toNat ∧ isText 12 (id12.set 0 31) = false ∧
     (withOrder .ix .loadStrip line).awaits .ix .loadStrip 7 ∧ OrderKind.loadStrip ≠ .ejectStrip ∧ 12 < (13#8).toNat ∧
     (withOrder .pk .abort line).awaits .pk .abort 7 ∧ line.picker.state ≠ .aborting ∧
     (withOrder .ta .abort line).awaits (tableLink .a) .abort 7 ∧ (withOrder .b1 .abort line).awaits (bonderLink .one) .abort 7 ∧
     (line.lanes.get .one).collet ≠ .aborting ∧ OrderKind.loadStrip ≠ .abort) ∧
    (line.tables.a.slot ≠ line.tables.b.slot ∧ bench.tables.a.slot = none) ∧
    (line.control.cell = .running ∧ (line.links.get .ix).state = .up) := by
  unfold State.awaits; decide +kernel

/-- FaultsOfALink, the owners: a table EMPTY, moving a wafer and OCCUPIED, the picker stepping with a token and with none, and
not; the picker's token in each kind of state; a strip moving; each collet and abort origin of a lane whose link is lost,
and a token in the nest while STOPPING. -/
theorem test_witness_owners :
    ((bench.tables.get .a).state = .empty ∧ ((withTable .loading bench).tables.get .a).state = .loading ∧
     ((withTable .unloading bench).tables.get .a).slot = some .q0 ∧ (line.tables.get .a).state = .occupied ∧
     line.picker.state ≠ .stepping) ∧
    (let s := withPicker .stepping (withToken .picker line)
     s.picker.state = .stepping ∧ s.tokenAt .picker = some (token .picker) ∧ (withPicker .stepping line).tokenAt .picker = none) ∧
    (let s := withPicker .putting (withToken .picker line)
     s.picker.state ≠ .idle ∧ s.picker.state ≠ .stepping ∧ s.tokenAt .picker = some (token .picker) ∧
     line.picker.state = .idle) ∧
    ((withStrip .loading [] line).strip.state = .loading ∧ (withStrip .ejecting [] line).strip.state = .ejecting) ∧
    (let s := withCell .stopping (withToken (.nest .one) (withLink .b1 .fault line))
     (s.links.get (bonderLink .one)).state ≠ .up ∧ s.control.cell = .stopping ∧
     (ownerLost .b1 true (withCollet .taking s)).tokens = [] ∧ (ownerLost .b1 true (withCollet .idle s)).tokens = [] ∧
     ((ownerLost .b1 true s).lanes.get .one).nest = .blocked) := by decide +kernel

/-- LateReportsAreCounted: no order outstanding, and one of another number. -/
theorem test_witness_late_reports :
    numbered (.picked .pk 6) = some (.pk, 6) ∧ line.powered = true ∧ (line.links.get .pk).state ≠ .disabled ∧
    (line.links.get .pk).breakTimer = none ∧
    ((line.links.get .pk).outstanding.all fun o => decide (o.number ≠ 6)) = true ∧
    (((withOrder .pk .pick line).links.get .pk).outstanding.all fun o => decide (o.number ≠ 6)) = true := by decide +kernel

/-- A late report on a FAULT link is counted, and nothing else moves (R175). -/
theorem test_late_report_is_counted :
    after (exec (.picked .pk 7) (withLink .pk .fault bench)) =
      (withLink .pk .fault bench).updLink .pk fun r => { r with lateCount := 1 } := by decide +kernel

/-! ## Invariants and consequences -/

theorem test_witness_settings_kept :
    ownStep .grant = true ∧ ownStep (.starvationExpiry .one) = true ∧ plainReport (.picked .pk 7) = some .pk ∧
    plainReport (.hello .ta 0 0 id8) = some .ta ∧ ∃ t, exec .grant bench = .next t := by
  refine ⟨by decide, by decide, by decide, by decide, _, rfl⟩

theorem test_witness_at_rest :
    bench.control.cell = .stopped ∧ bench.strip.state ≠ .active ∧ bench.tables.a.unloadWanted = false ∧
    bench.tables.b.unloadWanted = false ∧ bench.lanes.one.nest ≠ .blocked ∧ bench.lanes.two.nest ≠ .blocked ∧
    bench.control.waits.one.waiting = false ∧ bench.control.waits.two.waiting = false ∧
    line.control.cell ≠ .stopping := by decide +kernel

/-- The invariants hold of a running line, and it takes a step. -/
theorem test_witness_invariants :
    line.classes.inRange ∧ line.log.inRange ∧ (∀ l, (line.links.get l).inRange) ∧
    (∀ n, (line.lanes.get n).inRange ∧ (line.monitors.get n).inRange) ∧ line.host.inRange ∧
    ∃ t, step line = .next t := by
  refine ⟨by unfold ClassTables.inRange bankInRange; decide +kernel, by unfold Log.inRange; decide +kernel,
    fun l => by cases l <;> (unfold LinkRec.inRange; decide +kernel),
    fun n => ⟨by cases n <;> (unfold LaneRec.inRange; decide +kernel), ?_⟩, by unfold HostLink.inRange; decide +kernel, _, rfl⟩
  cases n <;> refine ⟨fun v h => ?_, by decide +kernel, fun v h => ?_, fun v h => ?_, by decide +kernel, fun h => ?_⟩ <;> cases h

/-! ## Steps of the line -/

/-- A grant: the first die of the walk, its site RESERVED, STEP on TA with the site's coordinates (R95). -/
theorem test_grant_sends_step :
    (let t := after (exec .grant laneOne)
     t.tokens = [token .picker] ∧ t.siteState (token .picker) = some .reserved ∧ t.picker = ⟨.stepping, .one⟩ ∧
     t.log.reserved = 1 ∧ t.wire = [.frame .ta 0 4 [0, 0, 0, 0] (crc8 [0, 4, 0, 0, 0, 0])] ∧
     (t.unit 0).map (·.state) = some .assembling ∧ (t.unit 0).bind (·.group) = some .q0) := by decide +kernel

/-- A watchdog's expiry on a STEP releases the site and does not hold the cell, and the next grant waits for no table
(Table 10-5, event 12). -/
theorem test_step_timeout :
    (let t := after (exec (.watchdogExpiry .ta) (after (exec .grant laneOne)))
     t.links.ta.state = .fault ∧ t.tokens = [] ∧ t.siteState (token .picker) = some .present ∧ t.log.reserved = 0 ∧
     t.control.cell = .running ∧ t.tables.a.faulted = true ∧
     t.conds.stationFault.detail = some (.stationFault .ta .timeout (some .step) none) ∧
     t.control.waits.one.reason = some .unmounted) := by decide +kernel

/-- A HELLO with another identity than the locked one (Table 10-5, event 3). -/
theorem test_hello_of_another_station :
    (let t := after (exec (.hello .ta 0 0 id8) ((withLink .ta .hunting bench).updLink .ta fun r => { r with locked := some (id8.set 0 65) }))
     t.links.ta.state = .fault ∧ t.links.ta.cause = some .identity ∧ t.links.ta.identity = List.replicate 8 32 ∧
     t.tables.a.faulted = true) := by decide +kernel

/-- A PK fault while putting records the die UNKNOWN with no lane, blocks the receiving nest and holds the cell (R102,
R157). -/
theorem test_picker_fault_while_putting :
    (let s := withNest .receiving (withPicker .putting (withToken .picker (withOrder .pk .put line)))
     let t := after (exec (.watchdogExpiry .pk) s)
     t.tokens = [] ∧ (t.log.records.map fun p => (p.fate, p.lane)) = [(.unknown, none)] ∧
     t.slots.q0.disposal = 1 ∧ t.control.holdCause = some .link ∧ t.lanes.one.collet = .purging ∧
     t.lanes.one.nest = .blocked ∧ t.control.cell = .held) := by decide +kernel

end Sys2Proof.Tests
end

/-! What MAP-MARK does to a slot (R11 to R13), and the obligation about it. -/

namespace Sys2Proof.Machine

/-- A supply that is up makes MAP-MARK the taking of its command. -/
theorem exec_mapMark_of_powered {tag : Byte} {p : List Byte} {s : State} (h : s.powered = true) :
    exec (.mapMark tag p) s = .next (command 5 tag (mapMarkCmd p) s) :=
  live_on h

@[simp] theorem Quad.ofNumber_toNat_u8_number (i : Quad) : Quad.ofNumber (u8 i.number).toNat = some i := by
  cases i <;> rfl

/-! ## The operations of Table 1-5 -/

/-- TOGGLE inverts the named marks: the exclusive or. -/
theorem MarkOp.apply_toggle (here named value : Bool) : MarkOp.toggle.apply here named value = (here ^^ named) := by
  cases here <;> cases named <;> rfl

/-! ## The rectangle -/

theorem MapMarkArgs.covers_iff {a : MapMarkArgs} {r c : Nat} :
    a.covers r c = true ↔ a.row0 ≤ r ∧ r ≤ a.row1 ∧ a.col0 ≤ c ∧ c ≤ a.col1 := by
  simp [MapMarkArgs.covers, and_assoc]

/-- What MAP-MARK makes of the site at a row and column: `markSites` at one place. -/
def MapMarkArgs.mark (a : MapMarkArgs) (op : MarkOp) (r c : Nat) (x : Site) : Site :=
  if a.covers r c then { x with marks := op.marks a.marks a.values x.marks } else x

/-- A site's marks differ after MAP-MARK just when the rectangle covers it and the operation changes them. -/
theorem MapMarkArgs.marks_mark_ne_iff (a : MapMarkArgs) (op : MarkOp) (r c : Nat) (x : Site) :
    (a.mark op r c x).marks ≠ x.marks ↔ a.covers r c = true ∧ op.marks a.marks a.values x.marks ≠ x.marks := by
  unfold MapMarkArgs.mark
  split <;> simp [*]

theorem markSites_eq (a : MapMarkArgs) (op : MarkOp) (sites : List (List Site)) :
    markSites a op sites = sites.zipIdx.map fun row => row.1.zipIdx.map fun x => a.mark op row.2 x.2 x.1 := rfl

/-- The site at a place after MAP-MARK is the one before it, marked for that place. -/
theorem site_markSites (a : MapMarkArgs) (op : MarkOp) (sl : Slot) (r c : Nat) :
    Slot.site { sl with sites := markSites a op sl.sites, exhausted := false } r c =
      (sl.site r c).map (a.mark op r c) := by
  unfold Slot.site
  rw [markSites_eq, List.getElem?_map, List.getElem?_zipIdx]
  cases sl.sites[r]? with
  | none => rfl
  | some row => simp [Option.map_map, Function.comp_def]

/-! ## The count it answers -/

/-- A list rewritten by position, beside the list itself. -/
theorem zip_map_zipIdx {α β : Type} (f : α × Nat → β) (l : List α) :
    (l.zipIdx.map f).zip l = l.zipIdx.map fun x => (f x, x.1) := by
  calc (l.zipIdx.map f).zip l
      = (l.zipIdx.map f).zip (l.zipIdx.map Prod.fst) := by rw [List.zipIdx_map_fst]
    _ = l.zipIdx.map fun x => (f x, x.1) := List.zip_map'

/-- In one row the marks that differ after are those the rectangle covers and the operation changes. -/
theorem length_filter_marks_ne (a : MapMarkArgs) (op : MarkOp) (r : Nat) (row : List Site) :
    (((row.zipIdx.map fun x => a.mark op r x.2 x.1).zip row).filter fun x => decide (x.1.marks ≠ x.2.marks)).length =
      (row.zipIdx.filter fun x =>
        a.covers r x.2 && decide (op.marks a.marks a.values x.1.marks ≠ x.1.marks)).length := by
  rw [zip_map_zipIdx, List.filter_map, List.length_map]
  congr 2
  funext x
  rw [Function.comp_apply, Bool.eq_iff_iff, Bool.and_eq_true, decide_eq_true_iff, decide_eq_true_iff]
  exact a.marks_mark_ne_iff op r x.2 x.1

/-- The number MAP-MARK answers is the number of sites whose marks after it differ from those before (R12). -/
theorem markChanges_eq_differing (a : MapMarkArgs) (op : MarkOp) (sites : List (List Site)) :
    markChanges a op sites = (((markSites a op sites).zip sites).map fun rows =>
      ((rows.1.zip rows.2).filter fun x => decide (x.1.marks ≠ x.2.marks)).length).sum := by
  rw [markSites_eq, zip_map_zipIdx, List.map_map, markChanges]
  congr 2
  funext row
  exact (length_filter_marks_ne a op row.2 row.1).symm

/-! ## The command -/

/-- A MAP-MARK that nothing refuses: the marked slot with its exhausted flag cleared, and a selection change when the
slot is MOUNTED (R11 to R13). -/
theorem mapMarkCmd_accepted {p : List Byte} {a : MapMarkArgs} {i : Quad} {op : MarkOp} {s : State}
    (hp : readMapMark p = some a) (hi : Quad.ofNumber a.slot = some i) (hop : markOpOf a.op = some op)
    (hrect : a.row0 ≤ a.row1 ∧ a.col0 ≤ a.col1 ∧ a.row1 < (s.slots.get i).rows ∧ a.col1 < (s.slots.get i).cols)
    (hst : (s.slots.get i).state = .ready ∨ (s.slots.get i).state = .mounted ∨ (s.slots.get i).state = .unmounting) :
    mapMarkCmd p s =
      (let sl := s.slots.get i
       let t := { s with slots := s.slots.set i { sl with sites := markSites a op sl.sites, exhausted := false } }
       let n := u16 (markChanges a op sl.sites)
       if sl.state = .mounted then .acts (selectionChange t) n else .answers t n) := by
  have taken : ¬((s.slots.get i).state ≠ .ready ∧ (s.slots.get i).state ≠ .mounted ∧
      (s.slots.get i).state ≠ .unmounting) := fun ⟨notReady, notMounted, notUnmounting⟩ =>
    hst.elim notReady fun rest => rest.elim notMounted notUnmounting
  simp only [mapMarkCmd, hp, hi, hop, if_neg taken, if_pos hrect]

/-- Settles O16: the command is accepted, and the slot it leaves is read place by place. -/
theorem mapMarkMarksTheRectangle : Obligations.MapMarkMarksTheRectangle := by
  intro tag r0 r1 c0 c1 opc m v i op s hpow hop hr hr1 hc hc1 hst
  let a : MapMarkArgs :=
    ⟨(u8 i.number).toNat, r0.toNat, r1.toNat, c0.toNat, c1.toNat, opc.toNat, marksOf m.toNat, marksOf v.toNat⟩
  have accepted := mapMarkCmd_accepted (a := a) (p := [u8 i.number, r0, r1, c0, c1, opc, m, v]) rfl
    (Quad.ofNumber_toNat_u8_number i) hop ⟨hr, hc, hr1, hc1⟩ hst
  refine ⟨{ s.slots.get i with sites := markSites a op (s.slots.get i).sites, exhausted := false },
    markChanges a op (s.slots.get i).sites, ?_, markChanges_eq_differing a op _, rfl, fun r c => ?_,
    fun here named value => ?_⟩
  · rw [exec_mapMark_of_powered hpow, command, accepted]
    by_cases mounted : (s.slots.get i).state = .mounted
    · simp only [if_pos mounted]
    · simp only [if_neg mounted]
  · rw [site_markSites]
    congr 1
    funext x
    simp only [MapMarkArgs.mark, MapMarkArgs.covers_iff, a]
  · cases op with
    | add => rfl
    | remove => rfl
    | toggle => exact MarkOp.apply_toggle here named value
    | assign => rfl

end Sys2Proof.Machine

/-! What the class commands write (R26 to R28) and what a selection change and the clearing of the exhausted flags do
(R22, R60), and the obligation about them. -/

namespace Sys2Proof.Machine

/-- A supply that is up makes SET-BINS the taking of its command. -/
theorem exec_setBins_of_powered {tag : Byte} {p : List Byte} {s : State} (h : s.powered = true) :
    exec (.setBins tag p) s = .next (command 16 tag (setBinsCmd p) s) :=
  live_on h

/-- A supply that is up makes USE-BANK the taking of its command. -/
theorem exec_useBank_of_powered {tag : Byte} {p : List Byte} {s : State} (h : s.powered = true) :
    exec (.useBank tag p) s = .next (command 17 tag (useBankCmd p) s) :=
  live_on h

/-- A supply that is up makes SET-GROUPS the taking of its command. -/
theorem exec_setGroups_of_powered {tag : Byte} {p : List Byte} {s : State} (h : s.powered = true) :
    exec (.setGroups tag p) s = .next (command 18 tag (setGroupsCmd p) s) :=
  live_on h

@[simp] theorem bankOf_bankCode (b : Bank) : bankOf (bankCode b) = some b := by
  cases b <;> rfl

@[simp] theorem bankOf_toNat_u8_bankCode (b : Bank) : bankOf (u8 (bankCode b)).toNat = some b := by
  cases b <;> rfl

theorem CellState.atRest_iff {c : CellState} : c.atRest = true ↔ c = .stopped ∨ c = .held := by
  cases c <;> simp [CellState.atRest]

@[simp] theorem PerQuad.get_map {α β : Type} (f : α → β) (t : PerQuad α) (i : Quad) :
    (t.map f).get i = f (t.get i) := by
  cases i <;> rfl

/-- Clearing exhausted flags rewrites each slot the condition names, and only its flag (R22). -/
theorem clearExhausted_slots_get (p : Slot → Bool) (s : State) (i : SlotId) :
    (clearExhausted p s).slots.get i =
      if p (s.slots.get i) then { s.slots.get i with exhausted := false } else s.slots.get i :=
  PerQuad.get_map _ _ i

/-! ## A table overwritten from a place on -/

/-- Entries that fit into a table land from their first place on, and every other place keeps its entry. -/
theorem getElem?_overwriteFrom {α : Type} {first : Nat} {new old : List α} (fits : first + new.length ≤ old.length)
    (k : Nat) : (overwriteFrom first new old)[k]? =
      if first ≤ k ∧ k < first + new.length then new[k - first]? else old[k]? := by
  have before : (old.take first).length = first := List.length_take_of_le (by omega)
  rw [overwriteFrom, List.append_assoc]
  by_cases low : k < first
  · rw [if_neg (by omega), List.getElem?_append_left (by omega), List.getElem?_take_of_lt low]
  · rw [List.getElem?_append_right (by omega), before]
    by_cases inside : k < first + new.length
    · rw [if_pos (by omega), List.getElem?_append_left (by omega)]
    · rw [if_neg (by omega), List.getElem?_append_right (by omega), List.getElem?_drop]
      congr 1
      omega

/-- The number of places at which two lists, set side by side, differ. -/
def differing {α : Type} [DecidableEq α] (xs ys : List α) : Nat :=
  ((xs.zip ys).filter fun x => decide (x.1 ≠ x.2)).length

@[simp] theorem differing_self {α : Type} [DecidableEq α] (xs : List α) : differing xs xs = 0 := by
  induction xs with
  | nil => rfl
  | cons x xs ih => simpa [differing] using ih

theorem differing_append {α : Type} [DecidableEq α] {xs xs' : List α} (ys ys' : List α)
    (h : xs.length = xs'.length) : differing (xs ++ ys) (xs' ++ ys') = differing xs xs' + differing ys ys' := by
  simp only [differing, List.zip_append h, List.filter_append, List.length_append]

/-- Entries beyond the end of the shorter list are compared with nothing. -/
theorem differing_append_left {α : Type} [DecidableEq α] {xs xs' : List α} (ys' : List α)
    (h : xs.length = xs'.length) : differing xs (xs' ++ ys') = differing xs xs' := by
  simpa [differing] using differing_append [] ys' h

/-- The number SET-BINS and SET-GROUPS answer is the number of entries that the table holds otherwise after them. -/
theorem changedFrom_eq_differing {α : Type} [DecidableEq α] {first : Nat} {new old : List α}
    (fits : first + new.length ≤ old.length) :
    changedFrom first new old = differing (overwriteFrom first new old) old := by
  obtain ⟨before, written, after, rfl, hbefore, hwritten⟩ :
      ∃ before written after, old = before ++ (written ++ after) ∧ before.length = first ∧
        new.length = written.length :=
    ⟨old.take first, (old.drop first).take new.length, (old.drop first).drop new.length,
      by simp only [List.take_append_drop], List.length_take_of_le (by omega),
      by rw [List.length_take_of_le (by rw [List.length_drop]; omega)]⟩
  subst hbefore
  have overwritten : overwriteFrom before.length new (before ++ (written ++ after)) = before ++ (new ++ after) := by
    simp [overwriteFrom, hwritten, ← List.drop_drop]
  calc changedFrom before.length new (before ++ (written ++ after))
      = differing new (written ++ after) := by rw [changedFrom, List.drop_left]; rfl
    _ = differing new written := differing_append_left after hwritten
    _ = differing (before ++ (new ++ after)) (before ++ (written ++ after)) := by
      rw [differing_append _ _ rfl, differing_append _ _ hwritten, differing_self, differing_self, Nat.zero_add,
        Nat.add_zero]
    _ = _ := by rw [overwritten]

/-! ## The commands -/

/-- A SET-BINS into the active bank is refused while the cell is neither STOPPED nor HELD (R26). -/
theorem setBinsCmd_not_at_rest {p : List Byte} {a : SetBinsArgs} {s : State} (hp : readSetBins p = some a)
    (hb : a.bank = bankCode s.classes.active) (moving : s.control.cell.atRest = false) :
    setBinsCmd p s = .refused .wrongState [] := by
  simp only [setBinsCmd, hp, hb, bankOf_bankCode, moving, and_self, if_true]

/-- A SET-BINS that nothing refuses writes its entries; into the active bank it is a selection change that clears every
exhausted flag (R26). -/
theorem setBinsCmd_accepted {p : List Byte} {a : SetBinsArgs} {b : Bank} {e : List (Option Nat)} {s : State}
    (hp : readSetBins p = some a) (hb : a.bank = bankCode b) (he : classEntries a.entries = some e)
    (fits : a.first + e.length ≤ 63) (taken : b = s.classes.active → s.control.cell.atRest = true) :
    setBinsCmd p s =
      (let t := { s with classes := s.classes.setBank b (overwriteFrom a.first e (s.classes.bank b)) }
       let n := [u8 (changedFrom a.first e (s.classes.bank b))]
       if b = s.classes.active then .acts (selectionChange (clearExhausted (fun _ => true) t)) n
       else .answers t n) := by
  have allowed : ¬(b = s.classes.active ∧ s.control.cell.atRest = false) := fun ⟨isActive, moving⟩ =>
    Bool.noConfusion ((taken isActive).symm.trans moving)
  have inRange : ¬(63 < a.first ∨ 64 < a.first + e.length) := by omega
  have spares63 : ¬63 < a.first + e.length := by omega
  simp only [setBinsCmd, hp, hb, bankOf_bankCode, he, if_neg allowed, if_neg inRange, if_neg spares63]

/-- USE-BANK is taken in every cell state (R27). -/
theorem useBankCmd_bankCode (b : Bank) (s : State) :
    useBankCmd [u8 (bankCode b)] s =
      .acts (selectionChange (clearExhausted (fun _ => true) { s with classes := { s.classes with active := b } }))
        [u8 (bankCode b)] := by
  simp only [useBankCmd, readOne, bankOf_toNat_u8_bankCode]

theorem toNat_u8_of_lt {n : Nat} (h : n < 256) : (u8 n).toNat = n := (BitVec.toNat_ofNat n 8).trans (Nat.mod_eq_of_lt h)

theorem groupEntries_numbers (g : List Group) : groupEntries (g.map fun q => (u8 q.number).toNat) = some g := by
  induction g with
  | nil => rfl
  | cons q g ih => simp only [List.map_cons, groupEntries, Quad.ofNumber_toNat_u8_number, ih]

theorem readSetGroups_numbers {first : Byte} {g : List Group} (nonempty : 1 ≤ g.length) (most : g.length ≤ 16) :
    readSetGroups (first :: u8 g.length :: g.map fun q => u8 q.number) =
      some ⟨first.toNat, g.map fun q => (u8 q.number).toNat⟩ := by
  simp [readSetGroups, toNat_u8_of_lt (show g.length < 256 by omega), nonempty, most, Function.comp_def]

/-- A SET-GROUPS of 1 to 16 groups that ends at class 15 or before is taken in every cell state (R28). -/
theorem setGroupsCmd_accepted {first : Byte} {g : List Group} (nonempty : 1 ≤ g.length)
    (fits : first.toNat + g.length ≤ 16) (s : State) :
    setGroupsCmd (first :: u8 g.length :: g.map fun q => u8 q.number) s =
      .acts (selectionChange (clearExhausted (fun _ => true)
          { s with classes := { s.classes with groups := overwriteFrom first.toNat g s.classes.groups } }))
        [u8 (changedFrom first.toNat g s.classes.groups)] := by
  have inRange : ¬(15 < first.toNat ∨ 16 < first.toNat + g.length) := by omega
  simp only [setGroupsCmd, readSetGroups_numbers nonempty (by omega), groupEntries_numbers, if_neg inRange]

/-- Settles O17: each command's accepted form gives its next state, and the table it leaves is the overwritten one. -/
theorem classCommands : Obligations.ClassCommands := by
  refine ⟨fun tag p a b e s hpow hp hb he hfit => ?setBins,
    fun tag s hpow => ⟨fun b => ?useBank, fun first g nonempty hfit => ?setGroups⟩,
    fun s => ⟨rfl, rfl, fun i => clearExhausted_slots_get _ s i⟩⟩
  case setBins =>
    refine ⟨overwriteFrom a.first e (s.classes.bank b), changedFrom a.first e (s.classes.bank b),
      ⟨fun other => ?_, fun isActive atRest => ?_, fun isActive notStopped notHeld => ?_⟩,
      fun inBank => ⟨changedFrom_eq_differing inBank, getElem?_overwriteFrom inBank⟩⟩
    · have accepted := setBinsCmd_accepted hp hb he hfit fun isActive => absurd isActive other
      rw [exec_setBins_of_powered hpow, command, accepted]
      simp only [if_neg other]
    · have accepted := setBinsCmd_accepted hp hb he hfit fun _ => CellState.atRest_iff.2 atRest
      rw [exec_setBins_of_powered hpow, command, accepted]
      simp only [if_pos isActive]
    · have moving : s.control.cell.atRest = false :=
        Bool.eq_false_iff.2 fun atRest => (CellState.atRest_iff.1 atRest).elim notStopped notHeld
      rw [exec_setBins_of_powered hpow, command, setBinsCmd_not_at_rest hp (isActive ▸ hb) moving]
      rfl
  case useBank => rw [exec_useBank_of_powered hpow, command, useBankCmd_bankCode]
  case setGroups =>
    refine ⟨overwriteFrom first.toNat g s.classes.groups, changedFrom first.toNat g s.classes.groups, ?_,
      fun inTable => ⟨changedFrom_eq_differing inTable, getElem?_overwriteFrom inTable⟩⟩
    rw [exec_setGroups_of_powered hpow, command, setGroupsCmd_accepted nonempty hfit]

end Sys2Proof.Machine

/-! What a promotion does to each die type and to each slot (R34, R36), and the obligation about PROMOTE. -/

namespace Sys2Proof.Machine

/-- A supply that is up makes PROMOTE the taking of its command. -/
theorem exec_promote_of_powered {tag : Byte} {p : List Byte} {s : State} (h : s.powered = true) :
    exec (.promote tag p) s = .next (command 21 tag (promoteCmd p) s) :=
  live_on h

/-! ## One die type of the recipe store -/

/-- What the recipe store holds for one die type (R32). -/
structure TypeRecipes where
  active : Option Recipe
  staged : Option Recipe
  generation : BitVec 8
  cycle : PerLane (BitVec 5)

/-- The part of the recipe store that is a die type's. -/
def RecipeStore.ofType (r : RecipeStore) (t : DieType) : TypeRecipes :=
  ⟨r.active.get t, r.staged.get t, r.generation.get t, ⟨r.cycle.one.get t, r.cycle.two.get t⟩⟩

theorem RecipeStore.ofType_cycle_get (r : RecipeStore) (t : DieType) (n : Lane) :
    (r.ofType t).cycle.get n = (r.cycle.get n).get t := by
  cases n <;> rfl

/-- A die type after a promotion: its staged recipe, if it has one, is active with both cycle indexes 0 (R34). -/
def TypeRecipes.promoted (r : TypeRecipes) : TypeRecipes :=
  match r.staged with
  | none => r
  | some new => ⟨some new, none, r.generation + 1, ⟨0, 0⟩⟩

theorem TypeRecipes.promoted_of_unstaged {r : TypeRecipes} (h : r.staged = none) : r.promoted = r := by
  simp only [promoted, h]

theorem TypeRecipes.promoted_of_staged {r : TypeRecipes} {new : Recipe} (h : r.staged = some new) :
    r.promoted = ⟨some new, none, r.generation + 1, ⟨0, 0⟩⟩ := by
  simp only [promoted, h]

theorem TypeRecipes.promoted_staged (r : TypeRecipes) : r.promoted.staged = none := by
  cases h : r.staged with
  | none => rw [promoted_of_unstaged h, h]
  | some new => rw [promoted_of_staged h]

/-! ## Promoting one die type -/

theorem promoteType_of_unstaged {t : DieType} {s : State} (h : s.recipes.staged.get t = none) :
    promoteType t s = s := by
  simp only [promoteType, h]

/-- Promoting a die type rewrites recipes and slots only. -/
theorem promoteType_frame (t : DieType) (s : State) :
    promoteType t s = { s with recipes := (promoteType t s).recipes, slots := (promoteType t s).slots } := by
  unfold promoteType
  split <;> rfl

/-- Promoting one die type promotes that type and leaves the others. -/
theorem ofType_promoteType (t d : DieType) (s : State) :
    (promoteType t s).recipes.ofType d =
      if t = d then (s.recipes.ofType d).promoted else s.recipes.ofType d := by
  cases staged : s.recipes.staged.get t with
  | none =>
    rw [promoteType_of_unstaged staged]
    split
    next same => rw [TypeRecipes.promoted_of_unstaged (same ▸ staged)]
    next => rfl
  | some new =>
    simp only [promoteType, staged, clearExhausted, RecipeStore.ofType, PerQuad.get_set]
    split
    next same => subst same; rw [TypeRecipes.promoted_of_staged staged]
    next => rfl

theorem promoteType_staged_of_ne {t d : DieType} (h : t ≠ d) (s : State) :
    (promoteType t s).recipes.staged.get d = s.recipes.staged.get d := by
  have kept := ofType_promoteType t d s
  rw [if_neg h] at kept
  exact congrArg TypeRecipes.staged kept

/-- Promoting a die type clears the exhausted flags of its slots when a recipe is staged for it (R34). -/
theorem promoteType_slots_get (t : DieType) (s : State) (i : SlotId) :
    (promoteType t s).slots.get i =
      if (s.slots.get i).dieType = t then
        { s.slots.get i with exhausted := (s.slots.get i).exhausted && (s.recipes.staged.get t).isNone }
      else s.slots.get i := by
  cases staged : s.recipes.staged.get t with
  | none => simp [promoteType_of_unstaged staged]
  | some new => simp [promoteType, staged, clearExhausted_slots_get]

/-! ## The promotion of every staged type -/

/-- The four die types promoted one after the other: a promotion before its selection change. -/
def promoteTypes (s : State) : State :=
  promoteType .q3 (promoteType .q2 (promoteType .q1 (promoteType .q0 s)))

theorem promote_eq (s : State) :
    promote s = if s.recipes.anyStaged then selectionChange (promoteTypes s) else promoteTypes s := rfl

theorem promoteTypes_frame (s : State) :
    promoteTypes s = { s with recipes := (promoteTypes s).recipes, slots := (promoteTypes s).slots } := by
  unfold promoteTypes
  rw [promoteType_frame .q3, promoteType_frame .q2, promoteType_frame .q1, promoteType_frame .q0]

theorem promote_recipes (s : State) : (promote s).recipes = (promoteTypes s).recipes := by
  rw [promote_eq]
  split <;> rfl

theorem promote_slots (s : State) : (promote s).slots = (promoteTypes s).slots := by
  rw [promote_eq]
  split <;> rfl

/-- A promotion rewrites recipes, slots and search-again marks only. -/
theorem promote_frame (s : State) :
    promote s = { s with
      recipes := (promote s).recipes, slots := (promote s).slots, searchAgain := (promote s).searchAgain } := by
  rw [promote_eq, promoteTypes_frame]
  split <;> rfl

/-- A promotion promotes each die type. -/
theorem ofType_promote (d : DieType) (s : State) : (promote s).recipes.ofType d = (s.recipes.ofType d).promoted := by
  simp only [promote_recipes, promoteTypes, ofType_promoteType]
  cases d <;> simp

/-- A promotion clears the exhausted flag of each slot whose die type has a recipe staged (R34). -/
theorem promote_slots_get (s : State) (i : SlotId) :
    (promote s).slots.get i = { s.slots.get i with
      exhausted := (s.slots.get i).exhausted && (s.recipes.staged.get (s.slots.get i).dieType).isNone } := by
  rw [promote_slots, promoteTypes]
  cases own : (s.slots.get i).dieType <;> simp [promoteType_slots_get, promoteType_staged_of_ne, own]

/-- Values for the lanes are the same when each lane's is. -/
theorem PerLane.ext_get {α : Type} {t u : PerLane α} (h : ∀ n, t.get n = u.get n) : t = u := by
  obtain ⟨tOne, tTwo⟩ := t
  obtain ⟨uOne, uTwo⟩ := u
  have one : tOne = uOne := h .one
  have two : tTwo = uTwo := h .two
  rw [one, two]

/-- A promotion of at least one type sets the mark of each waiting lane; a promotion of none sets no mark. -/
theorem promote_searchAgain_get (s : State) (n : Lane) :
    (promote s).searchAgain.get n =
      (s.searchAgain.get n || (s.recipes.anyStaged && (s.control.waits.get n).waiting)) := by
  rw [promote_eq, promoteTypes_frame]
  cases s.recipes.anyStaged <;> cases n <;> simp [selectionChange, PerLane.get]

theorem RecipeStore.anyStaged_of_staged {r : RecipeStore} {t : DieType} {new : Recipe} (h : r.staged.get t = some new) :
    r.anyStaged = true := by
  cases t <;> simp_all [anyStaged, PerQuad.get]

theorem RecipeStore.anyStaged_of_unstaged {r : RecipeStore} (h : ∀ t, r.staged.get t = none) :
    r.anyStaged = false := by
  have none0 : r.staged.q0 = none := h .q0
  have none1 : r.staged.q1 = none := h .q1
  have none2 : r.staged.q2 = none := h .q2
  have none3 : r.staged.q3 = none := h .q3
  simp only [anyStaged, none0, none1, none2, none3, Option.isSome_none, Bool.or_self]

/-! ## The command -/

theorem promoteCmd_accepted {s : State} (atRest : s.control.cell.atRest = true) (noStrip : s.strip.state = .none) :
    promoteCmd [] s = .acts (promote s) (promoteResults s.recipes (promote s).recipes) := by
  simp [promoteCmd, readNothing, atRest, noStrip]

/-- PROMOTE is refused while the cell is neither STOPPED nor HELD, and with a strip (R36). -/
theorem promoteCmd_refused {s : State} (h : s.control.cell.atRest = false ∨ s.strip.state ≠ .none) :
    promoteCmd [] s = .refused .wrongState [] := by
  simp only [promoteCmd, readNothing, if_pos h]

/-- Settles O19: the state before the event closes is the model's `promote`, read die type by die type. -/
theorem promoteMakesStagedRecipesActive : Obligations.PromoteMakesStagedRecipesActive := by
  intro tag s hpow
  refine ⟨fun atRest noStrip => ⟨promote s, ?taken, fun t unstaged => ?unstaged, fun t new staged => ?staged,
    fun t => ?withdrawn, promote_slots_get s, fun unstaged => ?unmarked, fun t new staged n => ?marked, promote_frame s⟩,
    fun h => ?refused⟩
  case taken =>
    rw [exec_promote_of_powered hpow, command, promoteCmd_accepted (CellState.atRest_iff.2 atRest) noStrip]
    rfl
  case unstaged =>
    have kept : (promote s).recipes.ofType t = s.recipes.ofType t :=
      (ofType_promote t s).trans (TypeRecipes.promoted_of_unstaged unstaged)
    exact ⟨congrArg TypeRecipes.active kept, congrArg TypeRecipes.generation kept, fun n => by
      rw [← RecipeStore.ofType_cycle_get, kept, RecipeStore.ofType_cycle_get]⟩
  case staged =>
    have promoted := (ofType_promote t s).trans (TypeRecipes.promoted_of_staged staged)
    exact ⟨congrArg TypeRecipes.active promoted, congrArg TypeRecipes.generation promoted, fun n => by
      rw [← RecipeStore.ofType_cycle_get, promoted]; cases n <;> rfl⟩
  case withdrawn =>
    exact (congrArg TypeRecipes.staged (ofType_promote t s)).trans (TypeRecipes.promoted_staged _)
  case unmarked =>
    exact PerLane.ext_get fun n => by
      rw [promote_searchAgain_get, RecipeStore.anyStaged_of_unstaged unstaged, Bool.false_and, Bool.or_false]
  case marked => rw [promote_searchAgain_get, RecipeStore.anyStaged_of_staged staged, Bool.true_and]
  case refused =>
    have moving : s.control.cell.atRest = false ∨ s.strip.state ≠ .none := by
      obtain running | holding | stopping | strip := h
      · exact .inl (by rw [running]; rfl)
      · exact .inl (by rw [holding]; rfl)
      · exact .inl (by rw [stopping]; rfl)
      · exact .inr strip
    rw [exec_promote_of_powered hpow, command, promoteCmd_refused moving]
    rfl

end Sys2Proof.Machine

/-! How a report reaches the order that awaits it, what a WAFER-IN does to its table (R46), and the obligation about
it. -/

namespace Sys2Proof.Machine

/-- A supply that is up makes WAFER-IN the taking of its report. -/
theorem exec_waferIn_of_powered {l : Link} {n state : Byte} {id : Text} {s : State} (h : s.powered = true) :
    exec (.waferIn l n state id) s = .next (waferInEvent l n state id s) :=
  live_on h

@[simp] theorem tableOfLink_tableLink (k : Table) : tableOfLink (tableLink k) = some k := by
  cases k <;> rfl

@[simp] theorem PerTable.set_set {α : Type} (t : PerTable α) (n : Table) (v w : α) : (t.set n v).set n w = t.set n w := by
  cases n <;> rfl

/-- The later of two updates of one table acts on what the earlier one left. -/
theorem updTable_updTable (k : Table) (f g : TableRec → TableRec) (s : State) :
    (s.updTable k f).updTable k g = s.updTable k (g ∘ f) := by
  simp only [State.updTable, PerTable.get_set_same, PerTable.set_set, Function.comp_apply]

/-! ## A report that its order awaits -/

theorem State.receives_of_awaits {s : State} {l : Link} {k : OrderKind} {n : Byte} (h : s.awaits l k n) :
    s.receives l = true := by
  obtain ⟨up, noBreak, -⟩ := h
  simp [State.receives, up, noBreak]

/-- A report with the number of the outstanding order is delivered when it answers that order and fits (R175, R176). -/
theorem takeReport_of_awaits {s : State} {l : Link} {k : OrderKind} {n : Byte} {fits : OrderKind → Bool}
    (f : State → State) (h : s.awaits l k n) (hfits : fits k = true) : takeReport l n fits f s = f s := by
  have received := State.receives_of_awaits h
  obtain ⟨up, -, outstanding⟩ := h
  simp only [takeReport, received, outstanding, up, hfits, and_self, if_true]

/-! ## The decision on the identity -/

/-- With no wafer-id expected, the identity read is taken as it comes (R46, case 1). -/
theorem Slot.identify_of_unexpected {sl : Slot} (h : sl.expectedId = none) (id : Text) :
    sl.identify (.read id) = some (some id) ∧ sl.identify .unread = some none := by
  simp only [identify, h, and_self]

/-- The id-lock gives the expected wafer-id, whatever is read (R46, case 2). -/
theorem Slot.identify_of_locked {sl : Slot} {e : Text} (h : sl.expectedId = some e) (lock : sl.idLock = true)
    (read : ReadId) : sl.identify read = some (some e) := by
  simp only [identify, h, lock, if_true]

/-- Without the id-lock an identity read must be the expected one (R46, cases 3 and 4). -/
theorem Slot.identify_read_of_unlocked {sl : Slot} {e : Text} (h : sl.expectedId = some e) (unlocked : sl.idLock = false)
    (id : Text) : sl.identify (.read id) = if id = e then some (some id) else none := by
  simp only [identify, h, unlocked, Bool.false_eq_true, if_false]

/-- Without the id-lock an unread wafer is not the expected one (R46, case 4). -/
theorem Slot.identify_unread_of_unlocked {sl : Slot} {e : Text} (h : sl.expectedId = some e)
    (unlocked : sl.idLock = false) : sl.identify .unread = none := by
  simp only [identify, h, unlocked, Bool.false_eq_true, if_false]

/-! ## The effect on the table and its slot -/

/-- An accepted identity mounts the slot and occupies the table; the completion is a selection change (R46). -/
theorem waferInEffect_mounted {k : Table} {i : SlotId} {read : ReadId} {w : Option Text} {s : State}
    (bound : (s.tables.get k).slot = some i) (accepted : (s.slots.get i).identify read = some w) :
    waferInEffect k read s = selectionChange (raise (.mountDone k (some i) .mounted read)
      ((s.updSlot i fun sl => { sl with state := .mounted, waferId := w }).updTable k fun r =>
        { r with state := .occupied, readId := read })) := by
  simp only [waferInEffect, bound, updTable_slots, accepted]
  exact congrArg (fun t => selectionChange (raise _ t))
    (updTable_updTable k (fun r => { r with readId := read }) (fun r => { r with state := .occupied })
      (s.updSlot i fun sl => { sl with state := .mounted, waferId := w }))

/-- A refused identity sends the wafer out with ending MISMATCH and leaves the slot as it was (R47). -/
theorem waferInEffect_mismatch {k : Table} {i : SlotId} {read : ReadId} {s : State}
    (bound : (s.tables.get k).slot = some i) (refused : (s.slots.get i).identify read = none) :
    waferInEffect k read s = sendOrder (tableLink k) .unloadWafer []
      (s.updTable k fun r => { r with state := .unloading, readId := read, ending := some .mismatch }) := by
  simp only [waferInEffect, bound, updTable_slots, refused, updTable_updTable]
  rfl

/-- A WAFER-IN in range that a LOAD-WAFER awaits ends the order and takes effect on its table (R46, R169). -/
theorem waferInEvent_of_awaits {k : Table} {n state : Byte} {id : Text} {read : ReadId} {s : State}
    (h : s.awaits (tableLink k) .loadWafer n) (inRange : readIdOf state id = some read) :
    waferInEvent (tableLink k) n state id s = closeEvent s (waferInEffect k read (endOrder (tableLink k) s)) := by
  rw [waferInEvent, takeReport_of_awaits _ h (by simp [inRange])]
  simp only [completing, tableOfLink_tableLink, inRange]

/-- Settles O23: the four cases of the identity, then the next state of a mount and of a mismatch. -/
theorem waferInDecidesTheMount : Obligations.WaferInDecidesTheMount := by
  refine ⟨fun sl id e => ⟨fun unexpected => ?unexpected, fun expected locked => ?locked,
    fun expected unlocked => ?unlocked⟩, fun k n state id read i s hpow awaited bound inRange => ?event⟩
  case unexpected => exact Slot.identify_of_unexpected unexpected id
  case locked => exact ⟨Slot.identify_of_locked expected locked _, Slot.identify_of_locked expected locked _⟩
  case unlocked =>
    have decided := Slot.identify_read_of_unlocked expected unlocked
    exact ⟨(decided e).trans (if_pos rfl), fun other => (decided id).trans (if_neg other),
      Slot.identify_unread_of_unlocked expected unlocked⟩
  case event =>
    rw [exec_waferIn_of_powered hpow, waferInEvent_of_awaits awaited inRange]
    refine ⟨fun w accepted => ?mounted, fun refused => ?mismatch⟩
    case mounted =>
      rw [waferInEffect_mounted (s := endOrder (tableLink k) s) bound accepted]
      rfl
    case mismatch =>
      rw [waferInEffect_mismatch (s := endOrder (tableLink k) s) bound refused]
      rfl

end Sys2Proof.Machine

/-! What SET-STRIP-TYPE and STRIP-LOCK do (R65, R66), and the obligation about them. -/

namespace Sys2Proof.Machine

/-- A supply that is up makes SET-STRIP-TYPE the taking of its command. -/
theorem exec_setStripType_of_powered {tag : Byte} {p : List Byte} {s : State} (h : s.powered = true) :
    exec (.setStripType tag p) s = .next (command 40 tag (setStripTypeCmd p) s) :=
  live_on h

/-- A supply that is up makes STRIP-LOCK the taking of its command. -/
theorem exec_stripLock_of_powered {tag : Byte} {p : List Byte} {s : State} (h : s.powered = true) :
    exec (.stripLock tag p) s = .next (command 41 tag (stripLockCmd p) s) :=
  live_on h

theorem command_of_answers {kind : Nat} {tag : Byte} {c : State → CmdResult} {s t : State} {values : List Byte}
    (h : c s = .answers t values) : command kind tag c s = reply kind tag (0 :: values) t := by
  rw [command, h]

theorem command_of_refused {kind : Nat} {tag : Byte} {c : State → CmdResult} {s : State} {r : Status}
    {values : List Byte} (h : c s = .refused r values) :
    command kind tag c s = reply kind tag (r.code :: values) s := by
  rw [command, h]

@[simp] theorem Quad.ofNumber_number (i : Quad) : Quad.ofNumber i.number = some i := by
  cases i <;> rfl

theorem CellState.atRest_eq_false {c : CellState} (notStopped : c ≠ .stopped) (notHeld : c ≠ .held) :
    c.atRest = false :=
  Bool.eq_false_iff.2 fun atRest => (atRest_iff.1 atRest).elim notStopped notHeld

/-! ## SET-STRIP-TYPE -/

/-- What a SET-STRIP-TYPE puts in its place: nothing, or a type in range whose stacks name lower positions; none when
its values are not taken (R65). -/
def SetStripTypeArgs.placed (a : SetStripTypeArgs) : Option (Option StripType) :=
  match flagOf a.typePresent with
  | none => none
  | some false => some none
  | some true => (a.checked.filter fun t => stacksBelow 1 t.positions).map some

theorem SetStripTypeArgs.placed_of_absent {a : SetStripTypeArgs} (absent : a.typePresent = 0) :
    a.placed = some none := by
  have hflag : flagOf a.typePresent = some false := by rw [absent]; rfl
  rw [placed, hflag]

theorem SetStripTypeArgs.placed_of_present {a : SetStripTypeArgs} {t : StripType} (present : a.typePresent = 1)
    (inRange : a.checked = some t) (supported : stacksBelow 1 t.positions = true) : a.placed = some (some t) := by
  have hflag : flagOf a.typePresent = some true := by rw [present]; rfl
  simp only [placed, hflag, inRange, Option.filter_some, if_pos supported, Option.map_some]

/-- SET-STRIP-TYPE in a cell that moves is WRONG-STATE, whatever its values are (R65). -/
theorem setStripTypeCmd_not_at_rest {p : List Byte} {a : SetStripTypeArgs} {c : Quad} {s : State}
    (hp : readSetStripType p = some a) (hc : a.code = c.number) (moving : s.control.cell.atRest = false) :
    setStripTypeCmd p s = .refused .wrongState [] := by
  simp only [setStripTypeCmd, hp, hc, Quad.ofNumber_number, if_pos moving]

/-- SET-STRIP-TYPE in a cell at rest writes what it places, and answers whether the place held a type before (R65). -/
theorem setStripTypeCmd_at_rest {p : List Byte} {a : SetStripTypeArgs} {c : Quad} {s : State}
    (hp : readSetStripType p = some a) (hc : a.code = c.number) (atRest : s.control.cell.atRest = true) :
    setStripTypeCmd p s = a.placed.elim (.refused .badValue []) fun t =>
      .answers { s with stripTypes := s.stripTypes.set c t } [flag (s.stripTypes.get c).isSome] := by
  have notMoving : ¬s.control.cell.atRest = false := fun moving => Bool.noConfusion (atRest.symm.trans moving)
  simp only [setStripTypeCmd, hp, hc, Quad.ofNumber_number, if_neg notMoving, SetStripTypeArgs.placed]
  cases flagOf a.typePresent with
  | none => rfl
  | some present =>
    cases present with
    | false => rfl
    | true =>
      cases a.checked with
      | none => rfl
      | some t => cases supported : stacksBelow 1 t.positions <;> simp [Option.filter_some, supported]

/-! ## STRIP-LOCK -/

theorem readStripLock_code (c : Quad) :
    (readStripLock [1, u8 c.number]).map lockOf = some (some (some c)) := by
  cases c <;> rfl

theorem readStripLock_unlock (v : Byte) : (readStripLock [0, v]).map lockOf = some (some none) := rfl

/-- STRIP-LOCK is taken in every cell state: a lock in range is set, and the lock as it was is the answer (R66). -/
theorem stripLockCmd_accepted {p : List Byte} {l : Option TypeCode} (h : (readStripLock p).map lockOf = some (some l))
    (s : State) :
    stripLockCmd p s =
      .answers { s with stripLock := l } (optional 1 (s.stripLock.map fun c => [u8 c.number])) := by
  obtain ⟨a, hp, hl⟩ := Option.map_eq_some_iff.1 h
  simp only [stripLockCmd, hp, hl]

/-- Settles O26: each command's accepted form gives its next state, and a cell that moves refuses a strip type. -/
theorem stripTypesAndLock : Obligations.StripTypesAndLock := by
  refine ⟨fun tag p a c s hpow hp hc => ⟨fun rest => ?atRest, fun notStopped notHeld => ?moving⟩,
    fun tag v s hpow => ⟨fun c => ?lock, ?unlock⟩⟩
  case atRest =>
    have written := setStripTypeCmd_at_rest hp hc (CellState.atRest_iff.2 rest)
    refine ⟨fun absent => ?_, fun t present inRange supported => ?_⟩
    · rw [SetStripTypeArgs.placed_of_absent absent] at written
      rw [exec_setStripType_of_powered hpow, command_of_answers written]
    · rw [SetStripTypeArgs.placed_of_present present inRange supported] at written
      rw [exec_setStripType_of_powered hpow, command_of_answers written]
  case moving =>
    have moving := CellState.atRest_eq_false notStopped notHeld
    rw [exec_setStripType_of_powered hpow, command_of_refused (setStripTypeCmd_not_at_rest hp hc moving)]
    rfl
  case lock =>
    rw [exec_stripLock_of_powered hpow, command_of_answers (stripLockCmd_accepted (readStripLock_code c) s)]
  case unlock =>
    rw [exec_stripLock_of_powered hpow, command_of_answers (stripLockCmd_accepted (readStripLock_unlock v) s)]

end Sys2Proof.Machine

/-! What SET-CELL writes (R160), how RELAX-UNIT and VOID-UNIT find their unit and what each makes of it (R164, R165),
and the obligation about them. -/

namespace Sys2Proof.Machine

/-- A supply that is up makes SET-CELL the taking of its command. -/
theorem exec_setCell_of_powered {tag : Byte} {p : List Byte} {s : State} (h : s.powered = true) :
    exec (.setCell tag p) s = .next (command 83 tag (setCellCmd p) s) :=
  live_on h

/-- A supply that is up makes RELAX-UNIT the taking of its command. -/
theorem exec_relaxUnit_of_powered {tag : Byte} {p : List Byte} {s : State} (h : s.powered = true) :
    exec (.relaxUnit tag p) s = .next (command 84 tag (unitCmd p relaxUnit) s) :=
  live_on h

/-- A supply that is up makes VOID-UNIT the taking of its command. -/
theorem exec_voidUnit_of_powered {tag : Byte} {p : List Byte} {s : State} (h : s.powered = true) :
    exec (.voidUnit tag p) s = .next (command 85 tag (unitCmd p voidUnit) s) :=
  live_on h

theorem command_of_acts {kind : Nat} {tag : Byte} {c : State → CmdResult} {s t : State} {values : List Byte}
    (h : c s = .acts t values) : command kind tag c s = reply kind tag (0 :: values) (closeEvent s t) := by
  rw [command, h]

/-! ## SET-CELL -/

@[simp] theorem gatingOf_toNat_code (g : Gating) : gatingOf g.code.toNat = some g := by
  cases g <;> rfl

/-- A gating is coded by 0 or 1 (R197). -/
theorem gatingOf_of_two_le {n : Nat} (h : 2 ≤ n) : gatingOf n = none := by
  unfold gatingOf
  split
  · omega
  · omega
  · rfl

/-- SET-CELL with values in range writes the gating and the timeout of a STOPPED cell (R160). -/
theorem setCellCmd_accepted {t : Byte} {s : State} (g : Gating) (stopped : s.control.cell = .stopped)
    (positive : 1 ≤ t.toNat) : setCellCmd [g.code, t] s =
      .acts { s with control := { s.control with gating := g, timeout := t.toNat } }
        [s.control.gating.code, u8 s.control.timeout] := by
  have nonzero : ¬t.toNat = 0 := by omega
  simp only [setCellCmd, readTwo, if_neg (not_not_intro stopped), gatingOf_toNat_code, if_neg nonzero]

/-- Outside STOPPED the cell refuses SET-CELL, whatever its values are (R160). -/
theorem setCellCmd_not_stopped {s : State} (g t : Byte) (moving : s.control.cell ≠ .stopped) :
    setCellCmd [g, t] s = .refused .wrongState [] := by
  simp only [setCellCmd, readTwo, if_pos moving]

/-- A STOPPED cell refuses a gating or a timeout outside its range (R160). -/
theorem setCellCmd_out_of_range {g t : Byte} {s : State} (stopped : s.control.cell = .stopped)
    (h : 2 ≤ g.toNat ∨ t = 0) : setCellCmd [g, t] s = .refused .badValue [] := by
  simp only [setCellCmd, readTwo, if_neg (not_not_intro stopped)]
  obtain unnamed | zero := h
  · simp only [gatingOf_of_two_le unnamed]
  · have zeroTime : t.toNat = 0 := by rw [zero]; rfl
    cases gatingOf g.toNat with
    | none => rfl
    | some gating => simp only [if_pos zeroTime]

/-! ## The unit that RELAX-UNIT and VOID-UNIT name -/

/-- The unit found at a place stands at that place. -/
theorem Strip.place_of_unitAt {t : Strip} {row col : Nat} {u : StripUnit} (h : t.unitAt row col = some u) :
    u.row = row ∧ u.col = col := by
  have matched := List.find?_some h
  rwa [Bool.and_eq_true, decide_eq_true_iff, decide_eq_true_iff] at matched

/-- Rewriting the unit found at a place rewrites the units of that place. -/
theorem State.mapUnit_of_unitAt {s : State} {row col : Nat} {u : StripUnit} (h : s.strip.unitAt row col = some u)
    (f : StripUnit → StripUnit) : s.mapUnit u f = { s with strip := { s.strip with
      units := s.strip.units.map fun v => if v.row = row ∧ v.col = col then f v else v } } := by
  obtain ⟨hrow, hcol⟩ := Strip.place_of_unitAt h
  rw [mapUnit, hrow, hcol]

/-- A unit that an ACTIVE strip has at a place in range: its resolution alone decides between the refusal and the
effect (R164). -/
theorem unitCmd_of_unitAt {row col : Byte} {u : StripUnit} {s : State} (f : StripUnit → State → CmdResult)
    (active : s.strip.state = .active) (hrow : row.toNat ≤ 7) (hcol : col.toNat ≤ 39)
    (found : s.strip.unitAt row.toNat col.toNat = some u) :
    unitCmd [row, col] f s = if u.resolved then .refused .wrongState [] else f u s := by
  have inRange : ¬(7 < row.toNat ∨ 39 < col.toNat) := by omega
  simp only [unitCmd, readTwo, if_neg (not_not_intro active), if_neg inRange, found]

/-! ## VOID-UNIT -/

theorem Position.voids_iff {p : Position} : p.voids = true ↔ p.state = .empty ∨ p.state = .allocated := by
  rw [voids, Bool.or_eq_true, decide_eq_true_iff, decide_eq_true_iff]

/-- A voided unit is VOIDED, and its EMPTY and ALLOCATED positions are ABANDONED (R165). -/
theorem StripUnit.void_eq (u : StripUnit) : u.void = { u with
    state := .voided
    positions := u.positions.map fun p =>
      if p.state = .empty ∨ p.state = .allocated then { p with state := .abandoned } else p } := by
  simp only [void, Position.voids_iff]

/-- Settles O46: each command's result on its payload gives the next state. -/
theorem setCellRelaxAndVoid : Obligations.SetCellRelaxAndVoid := by
  refine ⟨fun tag t g s hpow positive => ⟨fun stopped => ?written, fun moving => ?moving⟩,
    fun tag g t s hpow stopped h => ?outOfRange,
    fun tag row col u s hpow active hrow hcol found => ⟨fun resolved => ?resolved, fun unresolved => ?unresolved⟩⟩
  case written => rw [exec_setCell_of_powered hpow, command_of_acts (setCellCmd_accepted g stopped positive)]
  case moving =>
    rw [exec_setCell_of_powered hpow, command_of_refused (setCellCmd_not_stopped g.code t moving)]
    rfl
  case outOfRange =>
    rw [exec_setCell_of_powered hpow, command_of_refused (setCellCmd_out_of_range stopped h)]
    rfl
  case resolved =>
    have refused (f : StripUnit → State → CmdResult) : unitCmd [row, col] f s = .refused .wrongState [] :=
      (unitCmd_of_unitAt f active hrow hcol found).trans (if_pos resolved)
    rw [exec_relaxUnit_of_powered hpow, exec_voidUnit_of_powered hpow, command_of_refused (refused relaxUnit),
      command_of_refused (refused voidUnit)]
    exact ⟨rfl, rfl⟩
  case unresolved =>
    have taken (f : StripUnit → State → CmdResult) : unitCmd [row, col] f s = f u s :=
      (unitCmd_of_unitAt f active hrow hcol found).trans (if_neg (Bool.eq_false_iff.1 unresolved))
    refine ⟨⟨_, ?relaxed, rfl⟩, ⟨_, _, ?voided, rfl, rfl⟩⟩
    case relaxed =>
      rw [exec_relaxUnit_of_powered hpow, command_of_acts (taken relaxUnit), State.mapUnit_of_unitAt found]
    case voided =>
      rw [exec_voidUnit_of_powered hpow, command_of_acts (taken voidUnit), State.mapUnit_of_unitAt found]
      simp only [StripUnit.void_eq]
      rfl

end Sys2Proof.Machine

/-! When CALL and the break of a station link go out, what ENABLE-LINK and RESET-LINK make of the link (R171, R172,
R181), and the obligation about them. -/

namespace Sys2Proof.Machine

/-- A supply that is up makes ENABLE-LINK the taking of its command. -/
theorem exec_enableLink_of_powered {tag : Byte} {p : List Byte} {s : State} (h : s.powered = true) :
    exec (.enableLink tag p) s = .next (command 96 tag (enableLinkCmd p) s) :=
  live_on h

/-- A supply that is up makes RESET-LINK the taking of its command. -/
theorem exec_resetLink_of_powered {tag : Byte} {p : List Byte} {s : State} (h : s.powered = true) :
    exec (.resetLink tag p) s = .next (command 97 tag (resetLinkCmd p) s) :=
  live_on h

/-- A supply that is up makes the moment of a CALL its event. -/
theorem exec_call_of_powered {l : Link} {s : State} (h : s.powered = true) :
    exec (.call l) s = .next (callEvent l s) :=
  live_on h

/-- A supply that is up makes the end of a break its event. -/
theorem exec_breakEnd_of_powered {l : Link} {s : State} (h : s.powered = true) :
    exec (.breakEnd l) s = .next (breakEndEvent l s) :=
  live_on h

@[simp] theorem linkOf_toNat_u8_linkCode (l : Link) : linkOf (u8 (linkCode l)).toNat = some l := by
  cases l <;> rfl

@[simp] theorem PerLink.set_set {α : Type} (t : PerLink α) (n : Link) (v w : α) : (t.set n v).set n w = t.set n w := by
  cases n <;> rfl

/-- The later of two updates of one link acts on what the earlier one left. -/
theorem updLink_updLink (l : Link) (f g : LinkRec → LinkRec) (s : State) :
    (s.updLink l f).updLink l g = s.updLink l (g ∘ f) := by
  simp only [State.updLink, PerLink.get_set_same, PerLink.set_set, Function.comp_apply]

/-! ## CALL -/

/-- A CALL on a link just rewritten finds the rewritten record: one update of the link, and the frame (R172). -/
theorem sendCall_updLink (l : Link) (f : LinkRec → LinkRec) (s : State) :
    sendCall l (s.updLink l f) =
      { s.updLink l (fun r => { f r with callTimer := some 1000 }) with
        wire := s.wire ++ [.frame l 0 1 [] (crc8 [0, 1])] } := by
  rw [sendCall, updLink_updLink]
  rfl

/-- A hunting link that is not in a break calls (R172). -/
theorem callEvent_of_hunting {l : Link} {s : State} (hunting : (s.links.get l).state = .hunting)
    (noBreak : (s.links.get l).breakTimer = none) : callEvent l s = sendCall l s :=
  if_pos ⟨hunting, noBreak⟩

/-- The break of a hunting link ends with its first CALL (R181). -/
theorem breakEndEvent_of_hunting {l : Link} {s : State} (hunting : (s.links.get l).state = .hunting)
    (inBreak : (s.links.get l).breakTimer.isSome = true) :
    breakEndEvent l s = sendCall l (s.updLink l fun r => { r with breakTimer := none }) :=
  if_pos ⟨hunting, inBreak⟩

/-! ## ENABLE-LINK -/

/-- ENABLE-LINK with a threshold in range makes a DISABLED link HUNTING and calls (R171, R172). -/
theorem enableLinkCmd_disabled {l : Link} {n : Byte} {s : State} (disabled : (s.links.get l).state = .disabled)
    (inRange : 1 ≤ n.toNat ∧ n.toNat ≤ 15) : enableLinkCmd [u8 (linkCode l), n] s =
      .answers (sendCall l (s.updLink l fun r => { r with state := .hunting, crcThreshold := n.toNat }))
        [u8 (s.links.get l).crcThreshold] := by
  simp only [enableLinkCmd, readTwo, linkOf_toNat_u8_linkCode, if_neg (not_not_intro disabled), if_pos inRange]

/-- A link that is not DISABLED refuses ENABLE-LINK, whatever the threshold is (R171). -/
theorem enableLinkCmd_not_disabled {l : Link} {s : State} (n : Byte) (notDisabled : (s.links.get l).state ≠ .disabled) :
    enableLinkCmd [u8 (linkCode l), n] s = .refused .wrongState [] := by
  simp only [enableLinkCmd, readTwo, linkOf_toNat_u8_linkCode, if_pos notDisabled]

/-! ## RESET-LINK -/

/-- RESET-LINK sends a HUNTING or FAULT link hunting anew and begins its break (R181). -/
theorem resetLinkCmd_accepted {l : Link} {s : State}
    (h : (s.links.get l).state = .fault ∨ (s.links.get l).state = .hunting) : resetLinkCmd [u8 (linkCode l)] s =
      .answers { s.updLink l LinkRec.hunt with wire := s.wire ++ [.brk l] } [] := by
  simp only [resetLinkCmd, readOne, linkOf_toNat_u8_linkCode, if_pos h, updLink_wire]

/-- An UP or DISABLED link refuses RESET-LINK (R181). -/
theorem resetLinkCmd_refused {l : Link} {s : State}
    (h : (s.links.get l).state = .up ∨ (s.links.get l).state = .disabled) :
    resetLinkCmd [u8 (linkCode l)] s = .refused .wrongState [] := by
  have notTaken : ¬((s.links.get l).state = .fault ∨ (s.links.get l).state = .hunting) := by
    obtain up | disabled := h
    · simp [up]
    · simp [disabled]
  simp only [resetLinkCmd, readOne, linkOf_toNat_u8_linkCode, if_neg notTaken]

/-- Settles O48: each command's result in each link state and the two events give the next state, a CALL read as one
update of the link and its frame. -/
theorem hunting : Obligations.Hunting := by
  intro l s hpow
  refine ⟨fun tag n disabled low high => ?enabled, fun tag n notDisabled => ?refused,
    fun hunting noBreak => ?call, fun hunting inBreak => ?breakEnd, fun tag taken => ?reset,
    fun tag out => ?notReset⟩
  case enabled =>
    rw [exec_enableLink_of_powered hpow, command_of_answers (enableLinkCmd_disabled disabled ⟨low, high⟩),
      sendCall_updLink]
    rfl
  case refused =>
    rw [exec_enableLink_of_powered hpow, command_of_refused (enableLinkCmd_not_disabled n notDisabled)]
    rfl
  case call =>
    rw [exec_call_of_powered hpow, callEvent_of_hunting hunting noBreak]
    rfl
  case breakEnd =>
    rw [exec_breakEnd_of_powered hpow, breakEndEvent_of_hunting hunting inBreak, sendCall_updLink]
    rfl
  case reset =>
    rw [exec_resetLink_of_powered hpow, command_of_answers (resetLinkCmd_accepted taken)]
    rfl
  case notReset =>
    rw [exec_resetLink_of_powered hpow, command_of_refused (resetLinkCmd_refused out)]
    rfl

end Sys2Proof.Machine

/-! What DISABLE-LINK, LOCK-STATION-ID, TEST-LINK, SET-LIMITS and READ-STATION write and answer (R178, R182 to R185),
and the obligation about them. -/

namespace Sys2Proof.Machine

/-- A supply that is up makes DISABLE-LINK the taking of its command. -/
theorem exec_disableLink_of_powered {tag : Byte} {p : List Byte} {s : State} (h : s.powered = true) :
    exec (.disableLink tag p) s = .next (command 98 tag (disableLinkCmd p) s) :=
  live_on h

/-- A supply that is up makes LOCK-STATION-ID the taking of its command. -/
theorem exec_lockStationId_of_powered {tag : Byte} {p : List Byte} {s : State} (h : s.powered = true) :
    exec (.lockStationId tag p) s = .next (command 99 tag (lockStationIdCmd p) s) :=
  live_on h

/-- A supply that is up makes TEST-LINK the taking of its command. -/
theorem exec_testLink_of_powered {tag : Byte} {p : List Byte} {s : State} (h : s.powered = true) :
    exec (.testLink tag p) s = .next (command 100 tag (testLinkCmd p) s) :=
  live_on h

/-- A supply that is up makes SET-LIMITS the taking of its command. -/
theorem exec_setLimits_of_powered {tag : Byte} {p : List Byte} {s : State} (h : s.powered = true) :
    exec (.setLimits tag p) s = .next (command 101 tag (setLimitsCmd p) s) :=
  live_on h

/-- A supply that is up makes READ-STATION the taking of its command. -/
theorem exec_readStation_of_powered {tag : Byte} {p : List Byte} {s : State} (h : s.powered = true) :
    exec (.readStation tag p) s = .next (command 102 tag (readStationCmd p) s) :=
  live_on h

@[simp] theorem OrderKind.ofCode_toNat_code (k : OrderKind) : OrderKind.ofCode k.code.toNat = some k := by
  cases k <;> rfl

/-! ## DISABLE-LINK -/

/-- DISABLE-LINK in a cell at rest takes the link out of use, and others act on that (R182). -/
theorem disableLinkCmd_at_rest {s : State} (l : Link) (atRest : s.control.cell.atRest = true) :
    disableLinkCmd [u8 (linkCode l)] s = .acts (disableLink l s) [] := by
  simp only [disableLinkCmd, readOne, linkOf_toNat_u8_linkCode, if_pos atRest]

/-- DISABLE-LINK in a cell that moves is WRONG-STATE (R182). -/
theorem disableLinkCmd_not_at_rest {s : State} (l : Link) (moving : s.control.cell.atRest = false) :
    disableLinkCmd [u8 (linkCode l)] s = .refused .wrongState [] := by
  simp only [disableLinkCmd, readOne, linkOf_toNat_u8_linkCode, if_neg (Bool.eq_false_iff.1 moving)]

/-! ## LOCK-STATION-ID -/

/-- An optional text is read as its presence says, when a present one is printable (R197). -/
theorem optText_flag {w : Nat} {p : Bool} {t : Text} (printable : p = true → isText w t = true) :
    optText w (flag p) t = some (if p then some t else none) := by
  cases p with
  | false => rfl
  | true => exact if_pos (printable rfl)

/-- A present text that is not printable is out of range (R197). -/
theorem optText_present_unprintable {w : Nat} {t : Text} (unprintable : isText w t = false) : optText w 1 t = none :=
  if_neg (Bool.eq_false_iff.1 unprintable)

/-- LOCK-STATION-ID is decided by the reading of its identity alone: the locked identity becomes it, and the one that
stood before is the answer (R183). -/
theorem lockStationIdCmd_eq {id : Text} (l : Link) (p : Byte) (s : State) (hlen : id.length = 8) :
    lockStationIdCmd (u8 (linkCode l) :: p :: id) s = (optText 8 p id).elim (.refused .badValue []) fun locked =>
      .answers (s.updLink l fun r => { r with locked := locked }) (optional 8 (s.links.get l).locked) := by
  simp only [lockStationIdCmd, readLock, if_pos hlen, linkOf_toNat_u8_linkCode]
  cases optText 8 p id with
  | none => rfl
  | some locked => rfl

/-! ## TEST-LINK, SET-LIMITS and READ-STATION -/

/-- TEST-LINK in range sets the countdown and answers the one that stood before (R184). -/
theorem testLinkCmd_in_range {n : Byte} (l : Link) (s : State) (inRange : 1 ≤ n.toNat ∧ n.toNat ≤ 8) :
    testLinkCmd [u8 (linkCode l), n] s =
      .answers (s.updLink l fun r => { r with test := n.toNat }) [u8 (s.links.get l).test] := by
  simp only [testLinkCmd, readTwo, linkOf_toNat_u8_linkCode, if_pos inRange]

/-- SET-LIMITS in a STOPPED cell writes the limit of one order kind and answers the one that stood before (R178). -/
theorem setLimitsCmd_stopped {lo hi : Byte} {s : State} (k : OrderKind) (stopped : s.control.cell = .stopped)
    (positive : 1 ≤ nat16 lo hi) : setLimitsCmd [k.code, lo, hi] s =
      .answers { s with limits := s.limits.set k (nat16 lo hi) } (u16 (s.limits.get k)) := by
  have nonzero : ¬nat16 lo hi = 0 := by omega
  simp only [setLimitsCmd, readSetLimits, OrderKind.ofCode_toNat_code, if_neg (not_not_intro stopped), if_neg nonzero]

/-- Outside STOPPED the cell refuses SET-LIMITS, whatever the limit is (R178). -/
theorem setLimitsCmd_not_stopped {s : State} (k : OrderKind) (lo hi : Byte) (moving : s.control.cell ≠ .stopped) :
    setLimitsCmd [k.code, lo, hi] s = .refused .wrongState [] := by
  simp only [setLimitsCmd, readSetLimits, OrderKind.ofCode_toNat_code, if_pos moving]

/-- READ-STATION answers the link's record as it was and clears its two counts (R185). -/
theorem readStationCmd_eq (l : Link) (s : State) : readStationCmd [u8 (linkCode l)] s =
    .answers (s.updLink l fun r => { r with crcCount := 0, lateCount := 0 })
      (stationResults (s.links.get l) s.limits) := by
  simp only [readStationCmd, readOne, linkOf_toNat_u8_linkCode]

/-- Settles O49: each command's result on its payload gives the next state. -/
theorem linkCommands : Obligations.LinkCommands := by
  refine ⟨fun tag l s hpow => ⟨fun notStopped notHeld => ?moving, fun rest => ?atRest⟩,
    fun tag l s hpow => ⟨fun p id hlen printable => ?lock, fun id hlen unprintable => ?unprintable,
      fun n low high => ?test, fun k lo hi positive => ⟨fun stopped => ?limits, fun moving => ?limitsMoving⟩, ?read⟩⟩
  case moving =>
    rw [exec_disableLink_of_powered hpow,
      command_of_refused (disableLinkCmd_not_at_rest l (CellState.atRest_eq_false notStopped notHeld))]
    rfl
  case atRest =>
    rw [exec_disableLink_of_powered hpow, command_of_acts (disableLinkCmd_at_rest l (CellState.atRest_iff.2 rest))]
    rfl
  case lock =>
    have written := lockStationIdCmd_eq l (flag p) s hlen
    rw [optText_flag printable] at written
    rw [exec_lockStationId_of_powered hpow, command_of_answers written]
    rfl
  case unprintable =>
    have refused := lockStationIdCmd_eq l 1 s hlen
    rw [optText_present_unprintable unprintable] at refused
    rw [exec_lockStationId_of_powered hpow, command_of_refused refused]
    rfl
  case test =>
    rw [exec_testLink_of_powered hpow, command_of_answers (testLinkCmd_in_range l s ⟨low, high⟩)]
    rfl
  case limits => rw [exec_setLimits_of_powered hpow, command_of_answers (setLimitsCmd_stopped k stopped positive)]
  case limitsMoving =>
    rw [exec_setLimits_of_powered hpow, command_of_refused (setLimitsCmd_not_stopped k lo hi moving)]
    rfl
  case read =>
    rw [exec_readStation_of_powered hpow, command_of_answers (readStationCmd_eq l s)]
    rfl

end Sys2Proof.Machine

/-! What PING answers (R191), and the obligation about it. -/

namespace Sys2Proof.Machine

/-- A supply that is up makes PING the taking of its command. -/
theorem exec_ping_of_powered {tag : Byte} {p : List Byte} {s : State} (h : s.powered = true) :
    exec (.ping tag p) s = .next (command 112 tag (pingCmd p) s) :=
  live_on h

/-- A payload whose reply fits is PING's own answer, on the state as it stands. -/
theorem pingCmd_fits {p : List Byte} (s : State) (fits : p.length ≤ 239) : pingCmd p s = .answers s p :=
  if_pos fits

/-- With its status the reply to 240 bytes would be one byte too long, so PING refuses them. -/
theorem pingCmd_no_room {p : List Byte} (s : State) (full : p.length = 240) : pingCmd p s = .refused .noRoom [] := by
  have tooLong : ¬p.length ≤ 239 := by omega
  rw [pingCmd, if_neg tooLong, if_pos full]

/-- Settles O11: the payload's length decides what PING answers, and the answer only joins the records on CTX. -/
theorem pingEchoesItsPayload : Obligations.PingEchoesItsPayload := by
  refine fun tag p s hpow => ⟨fun fits => ?echo, fun full => ?noRoom⟩
  case echo =>
    rw [exec_ping_of_powered hpow, command_of_answers (pingCmd_fits s fits)]
    rfl
  case noRoom =>
    rw [exec_ping_of_powered hpow, command_of_refused (pingCmd_no_room s full)]
    rfl

end Sys2Proof.Machine

/-! What the part's own steps, the expiries and the reports leave alone (SettingsAreKept), read beside the ranges of the
links and the log: one statement for each row, from the law of its shared operation. -/

namespace Sys2Proof.Machine

/-- Going from `s` to `t` moves no setting, and keeps the links and the log in range. -/
def Calm (s t : State) : Prop := t.settings = s.settings ∧ (s.tracksInRange → t.tracksInRange)

/-- Going from `s` to `t` moves no setting but the standing of one link, and keeps the links and the log in range. -/
def LinkLocal (l : Link) (s t : State) : Prop :=
  s.settings.butLink t.settings l ∧ (s.tracksInRange → t.tracksInRange)

theorem Calm.refl (s : State) : Calm s s := ⟨rfl, id⟩

theorem LinkLocal.refl (l : Link) (s : State) : LinkLocal l s s := ⟨s.settings.butLink_refl l, id⟩

theorem LinkLocal.of_calm {l : Link} {s t : State} (h : Calm s t) : LinkLocal l s t :=
  ⟨Settings.butLink_of_eq l h.1, h.2⟩

/-! ## Rewriting the record of the link itself -/

theorem linkLocal_updLink (l : Link) {f : LinkRec → LinkRec} (s : State)
    (hf : ∀ r : LinkRec, r.inRange → (f r).inRange) : LinkLocal l s (s.updLink l f) :=
  ⟨settings_updLink_butLink l f s, fun h => tracks_updLink h hf⟩

/-- CALL on a link just rewritten. -/
theorem linkLocal_sendCall_updLink (l : Link) {f : LinkRec → LinkRec} (s : State)
    (hf : ∀ r : LinkRec, r.inRange → (f r).inRange := by exact fun _ h => h) :
    LinkLocal l s (sendCall l (s.updLink l f)) := by
  refine ⟨?_, fun h => tracks_sendCall l (tracks_updLink h hf)⟩
  rw [settings_sendCall, settings_updLink_updLink]
  exact settings_updLink_butLink _ _ _

theorem linkLocal_sendCall (l : Link) (s : State) : LinkLocal l s (sendCall l s) :=
  ⟨settings_sendCall l s ▸ settings_updLink_butLink l _ s, tracks_sendCall l⟩

/-- The entry into FAULT of a link just rewritten. -/
theorem linkLocal_linkFault_updLink (l : Link) (c : FaultCause) {f : LinkRec → LinkRec} (s : State)
    (hf : ∀ r : LinkRec, r.inRange → (f r).inRange) : LinkLocal l s (linkFault l c (s.updLink l f)) := by
  refine ⟨?_, fun h => tracks_linkFault l c (tracks_updLink h hf)⟩
  rw [settings_linkFault, settings_updLink_updLink]
  exact settings_updLink_butLink _ _ _

theorem linkLocal_linkFault (l : Link) (c : FaultCause) (s : State) : LinkLocal l s (linkFault l c s) := by
  refine ⟨?_, tracks_linkFault l c⟩
  rw [settings_linkFault]
  exact settings_updLink_butLink _ _ _

theorem LinkRec.inRange_countLate {r : LinkRec} (h : r.inRange) :
    LinkRec.inRange { r with lateCount := min 65535 (r.lateCount + 1) } := by
  obtain ⟨hcrc, hlow, hhigh, -, htest, hwatch⟩ := h
  exact ⟨hcrc, hlow, hhigh, Nat.min_le_left _ _, htest, hwatch⟩

theorem LinkRec.inRange_setCrc {r : LinkRec} {n : Nat} (h : r.inRange) (hn : n ≤ 255) :
    LinkRec.inRange { r with crcCount := n } := ⟨hn, h.2⟩

/-! ## Reports -/

theorem linkLocal_stationError (l : Link) (code : Option Byte) (s : State) : LinkLocal l s (stationError l code s) :=
  linkLocal_linkFault_updLink l _ s fun _ h => h

theorem linkLocal_lateReport (l : Link) (s : State) : LinkLocal l s (lateReport l s) :=
  linkLocal_updLink l s fun _ => LinkRec.inRange_countLate

/-- A report changes no setting but its own link's standing when its delivery changes no other. -/
theorem linkLocal_takeReport {l : Link} (n : Byte) (fits : OrderKind → Bool) {f : State → State} {s : State}
    (h : LinkLocal l s (f s)) : LinkLocal l s (takeReport l n fits f s) := by
  unfold takeReport
  split
  · split
    · exact linkLocal_lateReport l s
    · split
      · split
        · exact h
        · exact linkLocal_stationError l none s
      · exact linkLocal_lateReport l s
  · exact .refl l s

theorem calm_completing (l : Link) {f : State → State} (s : State) (h : ∀ t, Calm t (f t)) :
    Calm s (completing l f s) :=
  ⟨settings_completing l f s fun t => (h t).1, fun hs => tracks_completing l f hs fun t => (h t).2⟩

/-- A report that completes an order changes no setting but its own link's standing when its effect moves none. -/
theorem linkLocal_completing (l : Link) (n : Byte) (fits : OrderKind → Bool) {f : State → State} (s : State)
    (h : ∀ t, Calm t (f t)) : LinkLocal l s (takeReport l n fits (completing l f) s) :=
  linkLocal_takeReport n fits (.of_calm (calm_completing l s h))

/-! ## Shared operations after calm ones -/

theorem Calm.of_tracks {s t u : State} (h : Calm s t) (settings : u.settings = t.settings)
    (tracks : t.tracksInRange → u.tracksInRange) : Calm s u := ⟨settings.trans h.1, tracks ∘ h.2⟩

theorem Calm.raise {s t : State} (d : Detail) (h : Calm s t) : Calm s (raise d t) :=
  h.of_tracks (settings_raise d t) (tracks_raise d)

theorem Calm.syncLog {s t : State} (h : Calm s t) : Calm s (syncLog t) :=
  h.of_tracks (settings_syncLog t) tracks_syncLog

theorem Calm.sendOrder {s t : State} (l : Link) (k : OrderKind) (p : List Byte) (h : Calm s t) :
    Calm s (sendOrder l k p t) :=
  h.of_tracks (settings_sendOrder l k p t) (tracks_sendOrder l k p)

theorem Calm.updTable {s t : State} (k : Table) (f : TableRec → TableRec) (h : Calm s t) : Calm s (t.updTable k f) :=
  h.of_tracks (settings_updTable k f t) id

theorem Calm.updSlot {s t : State} (h : Calm s t) (i : SlotId) {f : Slot → Slot}
    (hf : ∀ sl, (f sl).print = sl.print := by exact fun _ => rfl) : Calm s (t.updSlot i f) :=
  h.of_tracks (settings_updSlot i f t hf) id

theorem Calm.updLane {s t : State} (h : Calm s t) (n : Lane) {f : LaneRec → LaneRec}
    (hf : ∀ r, (f r).settings = r.settings := by exact fun _ => rfl) : Calm s (t.updLane n f) :=
  h.of_tracks (settings_updLane n f t hf) (tracks_updLane n f)

theorem Calm.updWait {s t : State} (n : Lane) (f : Wait → Wait) (h : Calm s t) : Calm s (t.updWait n f) :=
  h.of_tracks (settings_updWait n f t) id

theorem Calm.selectionChange {s t : State} (h : Calm s t) : Calm s (selectionChange t) :=
  h.of_tracks (settings_selectionChange t) id

theorem Calm.setPicker {s t : State} (p : PickerState) (h : Calm s t) : Calm s (setPicker p t) :=
  h.of_tracks (settings_setPicker p t) (tracks_setPicker p)

theorem Calm.setSite {s t : State} (k : Token) (st : SiteState) (h : Calm s t) : Calm s (setSite k st t) :=
  h.of_tracks (settings_setSite k st t) (tracks_setSite k st)

theorem Calm.moveToken {s t : State} (k : Token) (p : Place) (h : Calm s t) : Calm s (moveToken k p t) :=
  h.of_tracks (settings_moveToken k p t) (tracks_moveToken k p)

theorem Calm.releaseToken {s t : State} (k : Token) (h : Calm s t) : Calm s (releaseToken k t) :=
  h.of_tracks (settings_releaseToken k t) (tracks_releaseToken k)

theorem Calm.missToken {s t : State} (k : Token) (h : Calm s t) : Calm s (missToken k t) :=
  h.of_tracks (settings_missToken k t) (tracks_missToken k)

theorem Calm.settleDie {s t : State} (k : Token) (fate : Fate) (lane : Option Lane) (ctx : Option BondContext)
    (bond : Option BondFields) (st : PosState) (h : Calm s t) : Calm s (settleDie k fate lane ctx bond st t) :=
  h.of_tracks (settings_settleDie k fate lane ctx bond st t) (tracks_settleDie k fate lane ctx bond st)

theorem Calm.endStep {s t : State} (h : Calm s t) : Calm s (endStep t) :=
  h.of_tracks (settings_endStep t) tracks_endStep

theorem Calm.endWaitDue {s t : State} (n : Lane) (h : Calm s t) : Calm s (endWaitDue n t) :=
  h.of_tracks (settings_endWaitDue n t) (tracks_endWaitDue n)

theorem Calm.closeEvent {s t : State} (s0 : State) (h : Calm s t) : Calm s (closeEvent s0 t) :=
  h.of_tracks (settings_closeEvent s0 t) (tracks_closeEvent s0)

theorem Calm.abandonDwell {s t : State} (n : Lane) (h : Calm s t) : Calm s (abandonDwell n t) :=
  h.of_tracks (settings_abandonDwell n t) (tracks_abandonDwell n)

theorem Calm.loseToken {s t : State} (n : Lane) (p : Place) (st : PosState) (h : Calm s t) :
    Calm s (loseToken n p st t) :=
  h.of_tracks (settings_loseToken n p st t) (tracks_loseToken n p st)

theorem Calm.emptyReceiving {s t : State} (n : Lane) (h : Calm s t) : Calm s (emptyReceiving n t) :=
  h.updLane n (hf := fun r => by split <;> rfl)

theorem Calm.colletIdle {s t : State} (n : Lane) (h : Calm s t) : Calm s (t.updLane n colletIdle) :=
  h.updLane n

theorem Calm.purgeCollet {s t : State} (n : Lane) (h : Calm s t) : Calm s (purgeCollet n t) :=
  (h.updLane n).sendOrder _ _ _

theorem Calm.purgeToken {s t : State} (n : Lane) (p : Place) (h : Calm s t) : Calm s (purgeToken n p t) := by
  unfold Machine.purgeToken
  split
  · exact h
  · exact h.settleDie _ _ _ _ _ _

theorem Calm.loseBond {s t : State} (n : Lane) (h : Calm s t) : Calm s (loseBond n t) :=
  (h.loseToken _ _ _).colletIdle n

/-! ## The owners' effects of the reports -/

theorem calm_waferInEffect (k : Table) (read : ReadId) (s : State) : Calm s (waferInEffect k read s) := by
  unfold waferInEffect
  split
  · exact .refl s
  · have h := (Calm.refl s).updTable k fun r => { r with readId := read }
    dsimp only
    split
    · exact (((h.updSlot _).updTable k _).raise _).selectionChange
    · exact (h.updTable k _).sendOrder _ _ _

theorem calm_waferOutEffect (k : Table) (s : State) : Calm s (waferOutEffect k s) := by
  unfold waferOutEffect
  dsimp only
  refine Calm.raise _ (Calm.updTable k _ ?_)
  split
  · exact .refl s
  · exact (Calm.refl s).updSlot _

theorem calm_abortedTableEffect (k : Table) (s : State) : Calm s (abortedTableEffect k s) := by
  unfold abortedTableEffect
  split
  · exact ((Calm.refl s).updTable k _).sendOrder _ _ _
  · exact (Calm.refl s).sendOrder _ _ _
  · exact (Calm.refl s).endStep
  · exact .refl s

theorem calm_steppedEffect (k : Table) (s : State) : Calm s (steppedEffect k s) := by
  unfold steppedEffect
  split
  · split
    · exact (Calm.refl s).setPicker _
    · exact ((Calm.refl s).setPicker _).sendOrder _ _ _
  · exact .refl s

theorem calm_pickedEffect (s : State) : Calm s (pickedEffect s) := by
  unfold pickedEffect
  split
  · exact .refl s
  · exact ((((Calm.refl s).setSite _ _).updLane _).setPicker _).sendOrder _ _ _

theorem calm_pickFailEffect (s : State) : Calm s (pickFailEffect s) := by
  unfold pickFailEffect
  split
  · exact .refl s
  next t _ =>
    dsimp only
    split
    · exact ((Calm.refl s).updSlot _ (hf := by exact fun sl => print_updSite sl t.row t.col _ fun _ => rfl)).sendOrder _ _ _
    · exact ((Calm.refl s).missToken _).setPicker _

theorem LaneRec.nestPut_settings (r : LaneRec) (up : Bool) : (r.nestPut up).settings = r.settings := by
  unfold nestPut
  split
  · split <;> rfl
  · rfl

theorem calm_putDoneEffect (s : State) : Calm s (putDoneEffect s) := by
  unfold putDoneEffect
  split
  · exact .refl s
  · exact (((Calm.refl s).moveToken _ _).setPicker _).updLane _ (hf := fun r => r.nestPut_settings _)

theorem calm_droppedEffect (s : State) : Calm s (droppedEffect s) := by
  unfold droppedEffect
  split
  · exact .refl s
  · exact (((Calm.refl s).settleDie _ _ _ _ _ _).emptyReceiving _).setPicker _

theorem calm_abortedPkEffect (holds : Bool) (s : State) : Calm s (abortedPkEffect holds s) := by
  unfold abortedPkEffect
  split
  · exact .refl s
  · dsimp only
    split
    · exact ((Calm.refl s).releaseToken _).setPicker _
    · split
      · exact (((Calm.refl s).setSite _ _).setPicker _).sendOrder _ _ _
      · split
        · exact (((Calm.refl s).emptyReceiving _).setPicker _).sendOrder _ _ _
        · exact (((Calm.refl s).moveToken _ _).setPicker _).updLane _

theorem calm_purgedPkEffect (s : State) : Calm s (purgedPkEffect s) := by
  unfold purgedPkEffect
  split
  · exact .refl s
  · exact ((Calm.refl s).settleDie _ _ _ _ _ _).setPicker _

theorem calm_purgedEffect (n : Lane) (s : State) : Calm s (purgedEffect n s) := by
  unfold purgedEffect
  split
  · exact ((Calm.refl s).purgeToken _ _).updLane n
  · exact ((Calm.refl s).purgeToken _ _).colletIdle n
  · exact (Calm.refl s).colletIdle n

theorem calm_abortedBonderEffect (n : Lane) (holds : Bool) (s : State) : Calm s (abortedBonderEffect n holds s) := by
  unfold abortedBonderEffect
  split
  · split
    · refine Calm.purgeCollet n (Calm.updLane ?_ n)
      split
      · exact .refl s
      · exact (Calm.refl s).moveToken _ _
    · exact (Calm.refl s).colletIdle n
  · split
    · exact (Calm.refl s).purgeCollet n
    · exact (Calm.refl s).loseBond n
  · split
    · exact ((Calm.refl s).abandonDwell n).purgeCollet n
    · exact ((Calm.refl s).abandonDwell n).loseBond n
  · exact (Calm.refl s).colletIdle n

theorem calm_strip (s : State) (t : Strip) : Calm s { s with strip := t } := ⟨rfl, id⟩

theorem calm_stripOrderLost (s : State) : Calm s (stripOrderLost s) :=
  ⟨settings_stripOrderLost s, tracks_stripOrderLost⟩

/-! ## HELLO, bad frames and the watchdog -/

theorem linkLocal_helloEvent (l : Link) (kind : Byte) (id : Text) (s : State) :
    LinkLocal l s (helloEvent l kind id s) := by
  unfold helloEvent
  split
  · split
    · split
      · exact linkLocal_linkFault l _ s
      · split
        · have greeted := linkLocal_updLink l (f := LinkRec.greet id) s fun _ h => h
          refine ⟨?_, fun h => tracks_closeEvent s (tracks_linkUp l (greeted.2 h))⟩
          rw [settings_closeEvent, settings_linkUp]
          exact greeted.1
        · exact linkLocal_linkFault l _ s
    · exact linkLocal_stationError l none s
    · exact linkLocal_lateReport l s
    · exact .refl l s
  · exact .refl l s

theorem linkLocal_badFrame (l : Link) (s : State) : LinkLocal l s (badFrame l s) := by
  unfold badFrame
  dsimp only
  split
  · exact linkLocal_linkFault_updLink l _ s fun _ h => LinkRec.inRange_setCrc h (Nat.min_le_left _ _)
  · exact linkLocal_updLink l s fun _ h => LinkRec.inRange_setCrc h (Nat.min_le_left _ _)

theorem linkLocal_bonderReport (l : Link) (number : Byte) (fits : Lane → OrderKind → State → Bool)
    {f : Lane → State → State} (s : State) (h : ∀ n t, Calm t (f n t)) :
    LinkLocal l s (bonderReport l number fits (fun n => completing l (f n)) s) := by
  unfold bonderReport
  split
  · exact linkLocal_completing l number _ s (h _)
  · exact linkLocal_takeReport number _ (.refl l s)

/-- PURGED is the picker's on PK and a lane's on a bonder link. -/
theorem linkLocal_purgedEvent (l : Link) (number : Byte) (s : State) : LinkLocal l s (purgedEvent l number s) := by
  unfold purgedEvent
  split
  · exact linkLocal_completing .pk number _ s calm_purgedPkEffect
  · exact linkLocal_bonderReport _ number _ s calm_purgedEffect

theorem LinkLocal.ite {l : Link} {p : Prop} [Decidable p] {s t : State} (h : LinkLocal l s t) :
    LinkLocal l s (if p then t else s) := by
  split
  · exact h
  · exact .refl l s

/-! ## The timers' expiries -/

theorem calm_settleExpiryEvent (n : Lane) (s : State) : Calm s (settleExpiryEvent n s) := by
  unfold settleExpiryEvent
  split
  · exact ((Calm.refl s).updLane n).closeEvent s
  · exact .refl s

theorem calm_starvationExpiryEvent (n : Lane) (s : State) : Calm s (starvationExpiryEvent n s) := by
  unfold starvationExpiryEvent
  split
  · exact ((Calm.refl s).updWait n _).raise _
  · exact .refl s

theorem calm_ageTimerExpiryEvent (s : State) : Calm s (ageTimerExpiryEvent s) := by
  unfold ageTimerExpiryEvent
  split
  · have aged : Calm s { s with log := { s.log with aged := true, ageTimer := none } } :=
      ⟨settings_log s _ rfl, fun h => tracks_log h h.2⟩
    exact aged.syncLog
  · exact .refl s

theorem calm_reassignStep (s : State) : Calm s (reassignStep s) :=
  (((Calm.refl s).of_tracks (settings_reassignDue s) tracks_reassignDue).endWaitDue .one).endWaitDue .two

/-! ## The rows -/

/-- A step the part makes by itself, and the expiry of a timer of no link, move no setting. -/
theorem calm_of_ownStep {c : Instr} {s t : State} (own : ownStep c = true) (e : exec c s = .next t) : Calm s t := by
  have kept {f : State → State} (h : Calm s (f s)) (e : live f s = .next t) : Calm s t := live_keeps (.refl s) h e
  cases c with
  | unloadWafer k => exact kept ⟨settings_unloadDue k s, tracks_unloadDue k⟩ e
  | grant => exact kept ⟨settings_arbitrate s, tracks_arbitrate⟩ e
  | settleExpiry n => exact kept (calm_settleExpiryEvent n s) e
  | take n => exact kept ⟨settings_takeDue n s, tracks_takeDue n⟩ e
  | nestPurge n => exact kept ⟨settings_nestPurgeDue n s, tracks_nestPurgeDue n⟩ e
  | loadStrip => exact kept ⟨settings_loadStripDue s, tracks_loadStripDue⟩ e
  | stripDone => exact kept ⟨settings_stripDoneDue s, tracks_stripDoneDue⟩ e
  | ejectStrip => exact kept ⟨settings_ejectStripDue s, tracks_ejectStripDue⟩ e
  | enterHeld => exact kept ⟨settings_heldDue s, tracks_heldDue⟩ e
  | enterStopped => exact kept ⟨settings_stoppedDue s, tracks_stoppedDue⟩ e
  | unitReassignment => exact kept (calm_reassignStep s) e
  | starvationExpiry n => exact kept (calm_starvationExpiryEvent n s) e
  | ageTimerExpiry => exact kept (calm_ageTimerExpiryEvent s) e
  | _ => exact absurd own Bool.false_ne_true

/-- A plain report, a bad frame, a watchdog's expiry, a CALL and the end of a break move no setting but the standing of
their own link. -/
theorem linkLocal_of_plainReport {c : Instr} {l : Link} {s t : State} (plain : plainReport c = some l)
    (e : exec c s = .next t) : LinkLocal l s t := by
  have kept {f : State → State} (h : LinkLocal l s (f s)) (e : live f s = .next t) : LinkLocal l s t :=
    live_keeps (.refl l s) h e
  cases c with
  | stationError _ n code =>
    cases plain
    exact kept (linkLocal_takeReport n _ (linkLocal_stationError l (some code) s)) e
  | waferIn _ n state id =>
    cases plain
    refine kept (linkLocal_completing l n _ s fun t => ?_) e
    split
    · exact calm_waferInEffect _ _ t
    · exact .refl t
  | waferOut _ n =>
    cases plain
    refine kept (linkLocal_completing l n _ s fun t => ?_) e
    split
    · exact calm_waferOutEffect _ t
    · exact .refl t
  | stepped _ n =>
    cases plain
    refine kept (linkLocal_completing l n _ s fun t => ?_) e
    split
    · exact calm_steppedEffect _ t
    · exact .refl t
  | picked _ n => cases plain; exact kept (linkLocal_completing l n _ s calm_pickedEffect) e
  | pickFail _ n => cases plain; exact kept (linkLocal_completing l n _ s calm_pickFailEffect) e
  | putDone _ n => cases plain; exact kept (linkLocal_completing l n _ s calm_putDoneEffect) e
  | dropped _ n => cases plain; exact kept (linkLocal_completing l n _ s calm_droppedEffect) e
  | purged _ n => cases plain; exact kept (linkLocal_purgedEvent l n s) e
  | ejected _ n => cases plain; exact kept (linkLocal_completing l n _ s fun t => calm_strip t .reset) e
  | hello _ _ kind id => cases plain; exact kept (linkLocal_helloEvent l kind id s) e
  | stationFrameDiscard _ _ _ _ _ =>
    cases plain
    exact kept (LinkLocal.ite (linkLocal_badFrame l s)) e
  | stationFrameTimeout _ => cases plain; exact kept (LinkLocal.ite (linkLocal_badFrame l s)) e
  | watchdogExpiry _ => cases plain; exact kept (LinkLocal.ite (linkLocal_linkFault l _ s)) e
  | call _ => cases plain; exact kept (LinkLocal.ite (linkLocal_sendCall l s)) e
  | breakEnd _ =>
    cases plain
    exact kept (LinkLocal.ite (linkLocal_sendCall_updLink l s)) e
  | abortedTable k n _ => cases plain; exact kept (linkLocal_completing _ n _ s (calm_abortedTableEffect k)) e
  | abortedPk n _ => cases plain; exact kept (linkLocal_completing _ n _ s (calm_abortedPkEffect _)) e
  | purgedOnPk n => cases plain; exact kept (linkLocal_completing _ n _ s calm_purgedPkEffect) e
  | abortedBonder m n _ => cases plain; exact kept (linkLocal_completing _ n _ s (calm_abortedBonderEffect m _)) e
  | abortedIx n _ => cases plain; exact kept (linkLocal_completing _ n _ s calm_stripOrderLost) e
  | _ => cases plain

/-- Settles O54: both clauses forget what the calm of a step says of the ranges. -/
theorem settingsAreKept : Obligations.SettingsAreKept :=
  ⟨fun _ _ _ own e => (calm_of_ownStep own e).1, fun _ _ _ _ plain e => (linkLocal_of_plainReport plain e).1⟩

end Sys2Proof.Machine

/-! What every step keeps (SupplyAndTotality, StepKeepsTheClassTables, StepKeepsLinksAndLog,
StepKeepsLanesMonitorsAndCommandLink): one relation between the states before and after, kept by every command of the
index and by every row. -/

namespace Sys2Proof.Machine

/-- Every lane's settings and count in the ranges of Table 6-1. -/
def State.lanesInRange (s : State) : Prop := ∀ n, (s.lanes.get n).inRange

/-- Every monitor's figures in the ranges of Table 7-1. -/
def State.monitorsInRange (s : State) : Prop := ∀ n, (s.monitors.get n).inRange

/-- Going from `s` to `t` leaves the queue of waiting commands and keeps every range. -/
structure Keeps (s t : State) : Prop where
  pending : t.pending = s.pending
  classes : s.classes.inRange → t.classes.inRange
  lanes : s.lanesInRange → t.lanesInRange
  monitors : s.monitorsInRange → t.monitorsInRange
  host : s.host.inRange → t.host.inRange
  tracks : s.tracksInRange → t.tracksInRange

theorem Keeps.refl (s : State) : Keeps s s := ⟨rfl, id, id, id, id, id⟩

theorem Keeps.trans {s t u : State} (h : Keeps s t) (k : Keeps t u) : Keeps s u :=
  ⟨k.pending.trans h.pending, k.classes ∘ h.classes, k.lanes ∘ h.lanes, k.monitors ∘ h.monitors, k.host ∘ h.host,
    k.tracks ∘ h.tracks⟩

/-! ## The ranges read from the settings -/

theorem LaneRec.inRange_iff_settings (r : LaneRec) :
    r.inRange ↔ r.settings.settle ≤ 255 ∧ 1 ≤ r.settings.threshold ∧ r.settings.threshold ≤ 63 ∧
      r.settings.offsetFailures ≤ 255 := Iff.rfl

theorem Monitor.inRange_figures (m : Monitor) : m.figures.inRange ↔ m.inRange := Iff.rfl

theorem PerLane.forall_get {α : Type} {p : α → Prop} {t : PerLane α} : (∀ n, p (t.get n)) ↔ p t.one ∧ p t.two :=
  ⟨fun h => ⟨h .one, h .two⟩, fun h n => by cases n with | one => exact h.1 | two => exact h.2⟩

/-- What moves no setting but the standing of a link keeps every range that is read from the settings. -/
theorem LinkLocal.keeps {l : Link} {s t : State} (h : LinkLocal l s t) : Keeps s t := by
  obtain ⟨⟨v, settings⟩, tracks⟩ := h
  have lanes (n : Lane) : (t.lanes.get n).settings = (s.lanes.get n).settings := by
    have both := congrArg Settings.lanes settings
    cases n with
    | one => exact congrArg PerLane.one both
    | two => exact congrArg PerLane.two both
  have monitors (n : Lane) : (t.monitors.get n).figures = (s.monitors.get n).figures := by
    have both := congrArg Settings.monitors settings
    cases n with
    | one => exact congrArg PerLane.one both
    | two => exact congrArg PerLane.two both
  have classes : t.classes = s.classes := congrArg Settings.classes settings
  have queue : t.host.queue = s.host.queue := congrArg Settings.queue settings
  have discards : t.host.discards = s.host.discards := congrArg Settings.discards settings
  refine ⟨congrArg Settings.pending settings, fun h => classes ▸ h, fun h n => ?lane, fun h n => ?monitor,
    fun h => ?host, tracks⟩
  case lane => rw [LaneRec.inRange_iff_settings, lanes n]; exact h n
  case monitor => rw [← Monitor.inRange_figures, monitors n]; exact h n
  case host => rw [HostLink.inRange, queue, discards]; exact h

theorem Calm.keeps {s t : State} (h : Calm s t) : Keeps s t := (LinkLocal.of_calm (l := .ta) h).keeps

/-- Rewriting none of the fields that the ranges are of keeps them all. -/
theorem Keeps.of_same {s t : State} (pending : t.pending = s.pending) (classes : t.classes = s.classes)
    (lanes : t.lanes = s.lanes) (monitors : t.monitors = s.monitors) (host : t.host = s.host)
    (links : t.links = s.links) (log : t.log = s.log) : Keeps s t :=
  ⟨pending, fun h => classes ▸ h, fun h n => lanes ▸ h n, fun h n => monitors ▸ h n, fun h => host ▸ h,
    fun h => tracks_same h links log⟩

/-! ## Shared operations -/

theorem Keeps.reply {s t : State} (k : Nat) (tag : Byte) (b : List Byte) (h : Keeps s t) : Keeps s (reply k tag b t) :=
  h.trans (Calm.keeps ⟨settings_reply k tag b t, tracks_reply k tag b⟩)

theorem Keeps.closeEvent {s t : State} (s0 : State) (h : Keeps s t) : Keeps s (closeEvent s0 t) :=
  h.trans (Calm.keeps ⟨settings_closeEvent s0 t, tracks_closeEvent s0⟩)

theorem Keeps.updLink {s t : State} (h : Keeps s t) (l : Link) {f : LinkRec → LinkRec}
    (hf : ∀ r : LinkRec, r.inRange → (f r).inRange := by exact fun _ h => h) : Keeps s (t.updLink l f) :=
  h.trans (linkLocal_updLink l t hf).keeps

theorem Keeps.updLane {s t : State} (h : Keeps s t) (n : Lane) {f : LaneRec → LaneRec}
    (hf : ∀ r : LaneRec, r.inRange → (f r).inRange := by exact fun _ h => h) : Keeps s (t.updLane n f) := by
  refine h.trans ⟨rfl, id, fun inRange m => ?_, id, id, id⟩
  rw [updLane_get]
  split
  · exact hf _ (inRange n)
  · exact inRange m

theorem Keeps.updMonitor {s t : State} (h : Keeps s t) (n : Lane) {f : Monitor → Monitor}
    (hf : ∀ m : Monitor, m.inRange → (f m).inRange := by exact fun _ h => h) : Keeps s (t.updMonitor n f) := by
  refine h.trans ⟨rfl, id, id, fun inRange m => ?_, id, id⟩
  rw [updMonitor_get]
  split
  · exact hf _ (inRange n)
  · exact inRange m

theorem Keeps.each {s : State} (m : LaneMask) {f : Lane → State → State} (hf : ∀ n t, Keeps t (f n t)) :
    Keeps s (m.each f s) := by
  unfold LaneMask.each
  dsimp only
  have first : Keeps s (if m.one then f .one s else s) := by
    split
    · exact hf .one s
    · exact .refl s
  split
  · exact first.trans (hf .two _)
  · exact first

theorem Keeps.withClasses {s : State} {c : ClassTables} (h : s.classes.inRange → c.inRange) :
    Keeps s { s with classes := c } := ⟨rfl, h, id, id, id, id⟩

theorem Keeps.withLog {s : State} {l : Log} (h : s.log.inRange → l.inRange) : Keeps s { s with log := l } :=
  ⟨rfl, id, id, id, id, fun inRange => ⟨inRange.1, h inRange.2⟩⟩

theorem Keeps.withHost {s : State} {h : HostLink} (hh : s.host.inRange → h.inRange) : Keeps s { s with host := h } :=
  ⟨rfl, id, id, id, hh, id⟩

theorem Keeps.selectAfterClear {s t : State} (p : Slot → Bool) (h : Keeps s t) :
    Keeps s (selectionChange (clearExhausted p t)) :=
  h.trans (.of_same rfl rfl rfl rfl rfl rfl rfl)

theorem Keeps.raise {s t : State} (d : Detail) (h : Keeps s t) : Keeps s (raise d t) :=
  h.trans (Calm.keeps ((Calm.refl t).raise d))

theorem Keeps.syncLog {s t : State} (h : Keeps s t) : Keeps s (syncLog t) := h.trans (Calm.keeps (Calm.refl t).syncLog)

theorem Keeps.sendOrder {s t : State} (l : Link) (k : OrderKind) (p : List Byte) (h : Keeps s t) :
    Keeps s (sendOrder l k p t) :=
  h.trans (Calm.keeps ((Calm.refl t).sendOrder l k p))

theorem Keeps.sendCall {s t : State} (l : Link) (h : Keeps s t) : Keeps s (sendCall l t) :=
  h.trans (linkLocal_sendCall l t).keeps

/-! ## The class tables -/

theorem classEntries_le {entries : List (Option (Option Nat))} {e : List (Option Nat)} (h : classEntries entries = some e) :
    ∀ x ∈ e, ∀ k, x = some k → k ≤ 15 := by
  induction entries generalizing e with
  | nil => cases h; simp
  | cons entry rest ih =>
    cases entry with
    | none => cases h
    | some class? =>
      cases class? with
      | none =>
        obtain ⟨more, hmore, rfl⟩ := Option.map_eq_some_iff.1 h
        simpa using ih hmore
      | some c =>
        simp only [classEntries, Option.ite_none_right_eq_some] at h
        obtain ⟨small, h⟩ := h
        obtain ⟨more, hmore, rfl⟩ := Option.map_eq_some_iff.1 h
        simpa [small] using ih hmore

theorem length_overwriteFrom {α : Type} {first : Nat} {new old : List α} (fits : first + new.length ≤ old.length) :
    (overwriteFrom first new old).length = old.length := by
  simp only [overwriteFrom, List.length_append, List.length_take, List.length_drop]
  omega

theorem mem_overwriteFrom {α : Type} {first : Nat} {new old : List α} {x : α} (h : x ∈ overwriteFrom first new old) :
    x ∈ new ∨ x ∈ old := by
  simp only [overwriteFrom, List.mem_append] at h
  obtain (before | written) | after := h
  · exact .inr (List.mem_of_mem_take before)
  · exact .inl written
  · exact .inr (List.mem_of_mem_drop after)

/-- Entries in range written below entry 63 keep a bank in range. -/
theorem bankInRange_overwriteFrom {first : Nat} {e b : List (Option Nat)} (fits : first + e.length ≤ 63)
    (small : ∀ x ∈ e, ∀ k, x = some k → k ≤ 15) (h : bankInRange b) : bankInRange (overwriteFrom first e b) := by
  obtain ⟨size, entries, last⟩ := h
  have room : first + e.length ≤ b.length := by omega
  refine ⟨(length_overwriteFrom room).trans size, fun x hx => ?_, ?_⟩
  · exact (mem_overwriteFrom hx).elim (small x) (entries x)
  · rw [getElem?_overwriteFrom room, if_neg (by omega)]
    exact last

theorem ClassTables.inRange_setBank {c : ClassTables} {b : Bank} {v : List (Option Nat)} (h : c.inRange)
    (hv : bankInRange v) : (c.setBank b v).inRange := by
  obtain ⟨zero, one, groups⟩ := h
  cases b
  · exact ⟨hv, one, groups⟩
  · exact ⟨zero, hv, groups⟩

theorem ClassTables.inRange.bank {c : ClassTables} (h : c.inRange) (b : Bank) : bankInRange (c.bank b) := by
  cases b
  · exact h.1
  · exact h.2.1

/-! ## The commands that write what is in a range -/

theorem setBinsCmd_keeps (p : List Byte) (s : State) : (setBinsCmd p s).leaves (Keeps s) := by
  unfold setBinsCmd
  split
  · trivial
  next a _ =>
  split
  · trivial
  next b _ =>
  split
  · trivial
  split
  · trivial
  next e he =>
  split
  · trivial
  split
  · trivial
  next _ low =>
  have written : Keeps s { s with classes := s.classes.setBank b (overwriteFrom a.first e (s.classes.bank b)) } :=
    Keeps.withClasses fun h =>
      ClassTables.inRange_setBank h (bankInRange_overwriteFrom (by omega) (classEntries_le he) (h.bank b))
  dsimp only
  split
  · exact written.selectAfterClear _
  · exact written

theorem useBankCmd_keeps (p : List Byte) (s : State) : (useBankCmd p s).leaves (Keeps s) := by
  unfold useBankCmd
  repeat' split
  · trivial
  · trivial
  next b _ => exact (Keeps.withClasses (c := { s.classes with active := b }) fun h => h).selectAfterClear _

theorem setGroupsCmd_keeps (p : List Byte) (s : State) : (setGroupsCmd p s).leaves (Keeps s) := by
  unfold setGroupsCmd
  split
  · trivial
  next a _ =>
  split
  · trivial
  next g _ =>
  split
  · trivial
  next fits =>
  refine (Keeps.withClasses fun h => ?_).selectAfterClear _
  obtain ⟨zero, one, groups⟩ := h
  exact ⟨zero, one, (length_overwriteFrom (by omega)).trans groups⟩

theorem keeps_promote (s : State) : Keeps s (promote s) := by
  rw [promote_frame]
  exact .of_same rfl rfl rfl rfl rfl rfl rfl

theorem promoteCmd_keeps (p : List Byte) (s : State) : (promoteCmd p s).leaves (Keeps s) := by
  unfold promoteCmd
  repeat' split
  · trivial
  · trivial
  · exact keeps_promote s

theorem mountCmd_keeps (p : List Byte) (s : State) : (mountCmd p s).leaves (Keeps s) := by
  unfold mountCmd
  repeat' split
  · trivial
  · exact Keeps.sendOrder _ _ _ (.of_same rfl rfl rfl rfl rfl rfl rfl)
  · trivial
  · trivial

theorem setLaneCmd_keeps (p : List Byte) (s : State) : (setLaneCmd p s).leaves (Keeps s) := by
  unfold setLaneCmd
  split
  · trivial
  next a ha =>
  have settle : a.settle ≤ 255 := by
    unfold readSetLane at ha
    split at ha
    · cases ha; exact Nat.le_of_lt_succ (BitVec.isLt _)
    · cases ha
  split
  · trivial
  split
  · trivial
  split
  next inRange =>
    exact Keeps.each a.mask fun n t => (Keeps.refl t).updLane n fun r h => ⟨settle, inRange.1, inRange.2, h.2.2.2⟩
  · trivial

theorem LaneRec.inRange_setFailures {r : LaneRec} {k : Nat} (d : Bool) (hk : k ≤ 255) (h : r.inRange) :
    LaneRec.inRange { r with degraded := d, offsetFailures := k } := ⟨h.1, h.2.1, h.2.2.1, hk⟩

theorem readLaneCmd_keeps (p : List Byte) (s : State) : (readLaneCmd p s).leaves (Keeps s) := by
  unfold readLaneCmd
  repeat' split
  · trivial
  · trivial
  next n _ => exact (Keeps.refl s).updLane n fun r h => LaneRec.inRange_setFailures r.degraded (Nat.zero_le _) h

theorem restoreLaneCmd_keeps (p : List Byte) (s : State) : (restoreLaneCmd p s).leaves (Keeps s) := by
  unfold restoreLaneCmd
  repeat' split
  · trivial
  · trivial
  next n _ => exact (Keeps.refl s).updLane n fun r h => LaneRec.inRange_setFailures false (Nat.zero_le _) h

theorem figureInRange_none : figureInRange none := fun _ h => nomatch h

/-- A monitor that keeps its dwell's figures keeps its ranges when its sample is gone, or when it is as enabled as it
was and holds the sample it held. -/
theorem Monitor.inRange.silent {m : Monitor} (enable : Bool) (gain : Gain) (h : m.inRange) :
    (Monitor.silent { m with enable := enable, gain := gain }).inRange := by
  obtain ⟨latest, tare, low, high, count, -⟩ := h
  cases enable with
  | false => exact ⟨figureInRange_none, tare, low, high, count, fun _ => ⟨rfl, rfl⟩⟩
  | true => exact ⟨latest, tare, low, high, count, fun off => nomatch off⟩

theorem Monitor.inRange.setForce {m : Monitor} (enable : Bool) (gain : Gain) (h : m.inRange) :
    (m.setForce enable gain).inRange := by
  unfold Monitor.setForce
  dsimp only
  split
  · exact h.silent enable gain
  · exact h.silent enable gain
  · exact h.silent enable gain
  · split
    · exact h
    · obtain ⟨-, tare, low, high, count, -⟩ := h
      exact ⟨figureInRange_none, tare, low, high, count, fun _ => ⟨rfl, rfl⟩⟩

theorem setForceCmd_keeps (p : List Byte) (s : State) : (setForceCmd p s).leaves (Keeps s) := by
  unfold setForceCmd
  repeat' split
  · trivial
  · trivial
  next a _ _ _ _ e g _ _ => exact Keeps.each a.mask fun n t => (Keeps.refl t).updMonitor n fun m h => h.setForce e g
  · trivial

theorem readForceCmd_keeps (p : List Byte) (s : State) : (readForceCmd p s).leaves (Keeps s) := by
  unfold readForceCmd
  repeat' split
  · trivial
  · trivial
  next n _ =>
    refine (Keeps.refl s).updMonitor n fun m h => ?_
    obtain ⟨latest, tare, low, high, count, off⟩ := h
    exact ⟨latest, tare, low, high, count, fun disabled => ⟨(off disabled).1, rfl⟩⟩

theorem setLogCmd_keeps (p : List Byte) (s : State) : (setLogCmd p s).leaves (Keeps s) := by
  unfold setLogCmd
  split
  · trivial
  next a ha =>
  have age : a.ageTimeout ≤ 255 := by
    unfold readSetLog at ha
    split at ha
    · cases ha; exact Nat.le_of_lt_succ (BitVec.isLt _)
    · cases ha
  split
  · trivial
  split
  · trivial
  next inRange =>
  split
  · trivial
  refine (Keeps.withLog fun h => ?_).syncLog
  obtain ⟨records, reserved, -⟩ := h
  have trigger : isTrigger a.trigger = true := eq_true_of_ne_false fun h => inRange (.inl h)
  exact ⟨records, reserved, Nat.zero_le _, trigger, Nat.one_le_iff_ne_zero.2 fun h => inRange (.inr h), age⟩

theorem fetchLogCmd_keeps (p : List Byte) (s : State) : (fetchLogCmd p s).leaves (Keeps s) := by
  unfold fetchLogCmd
  repeat' split
  · trivial
  · refine (Keeps.withLog fun h => ?_).syncLog
    obtain ⟨records, rest⟩ := h
    exact ⟨Nat.le_trans (List.drop_sublist _ _).length_le records, rest⟩
  · trivial

theorem holdCmd_keeps (p : List Byte) (s : State) : (holdCmd p s).leaves (Keeps s) := by
  unfold holdCmd
  repeat' split
  · trivial
  · exact Calm.keeps ⟨settings_enterHolding _ s, tracks_enterHolding _⟩
  · exact .refl s
  · exact .refl s
  · trivial
  · trivial

/-! ### STOP -/

theorem keeps_sendAbort (l : Link) (s : State) : Keeps s (sendAbort l s) :=
  Calm.keeps (((Calm.refl s).of_tracks (settings_endOrder l s) (tracks_endOrder l)).sendOrder l _ _)

theorem keeps_stopTable (k : Table) (s : State) : Keeps s (stopTable k s) := by
  unfold stopTable
  split
  · exact keeps_sendAbort _ s
  · exact keeps_sendAbort _ s
  · exact keeps_sendAbort _ s
  · exact .refl s

theorem keeps_stopPicker (s : State) : Keeps s (stopPicker s) := by
  unfold stopPicker
  split
  · exact (keeps_sendAbort .pk s).trans (Calm.keeps ((Calm.refl _).setPicker _))
  · exact (keeps_sendAbort .pk s).trans (Calm.keeps ((Calm.refl _).setPicker _))
  · exact .refl s

theorem keeps_stopLane (n : Lane) (s : State) : Keeps s (stopLane n s) := by
  unfold stopLane
  split
  · exact (keeps_sendAbort _ s).updLane n
  · exact .refl s

theorem keeps_stopStrip (s : State) : Keeps s (stopStrip s) := by
  unfold stopStrip
  split
  · exact keeps_sendAbort .ix s
  · exact keeps_sendAbort .ix s
  · exact .refl s

theorem keeps_endWait (n : Lane) (s : State) : Keeps s (endWait n s) :=
  Calm.keeps ⟨settings_endWait n s, tracks_endWait n⟩

theorem keeps_stopEffect (s : State) : Keeps s (stopEffect s) := by
  unfold stopEffect
  have stopping : Keeps s { s with control := { s.control with cell := .stopping, holdCause := none } } :=
    .of_same rfl rfl rfl rfl rfl rfl rfl
  exact ((((((((stopping.trans (keeps_endWait .one _)).trans (keeps_endWait .two _)).trans (keeps_stopTable .a _)).trans
    (keeps_stopTable .b _)).trans (keeps_stopPicker _)).trans (keeps_stopLane .one _)).trans
    (keeps_stopLane .two _)).trans (keeps_stopStrip _))

theorem stopCmd_keeps (p : List Byte) (s : State) : (stopCmd p s).leaves (Keeps s) := by
  unfold stopCmd
  repeat' split
  · trivial
  · exact keeps_stopEffect s
  · exact keeps_stopEffect s
  · exact keeps_stopEffect s
  · exact .refl s
  · exact .refl s

/-! ### The commands on a link -/

theorem enableLinkCmd_keeps (p : List Byte) (s : State) : (enableLinkCmd p s).leaves (Keeps s) := by
  unfold enableLinkCmd
  repeat' split
  · trivial
  · trivial
  · trivial
  next l _ _ inRange =>
    refine Keeps.sendCall l ((Keeps.refl s).updLink l fun r h => ?_)
    obtain ⟨crc, -, -, rest⟩ := h
    exact ⟨crc, inRange.1, inRange.2, rest⟩
  · trivial

theorem resetLinkCmd_keeps (p : List Byte) (s : State) : (resetLinkCmd p s).leaves (Keeps s) := by
  unfold resetLinkCmd
  repeat' split
  · trivial
  · trivial
  next l _ _ =>
    have hunts : Keeps s (s.updLink l LinkRec.hunt) := (Keeps.refl s).updLink l fun r h => by
      obtain ⟨-, low, high, -, rest⟩ := h
      exact ⟨Nat.zero_le _, low, high, Nat.zero_le _, rest⟩
    exact hunts.trans (.of_same rfl rfl rfl rfl rfl rfl rfl)
  · trivial

theorem keeps_disableLink (l : Link) (s : State) : Keeps s (disableLink l s) := by
  have disabled : Keeps s (s.updLink l LinkRec.disable) := (Keeps.refl s).updLink l fun r h => by
    obtain ⟨-, low, high, -⟩ := h
    exact ⟨Nat.zero_le _, low, high, Nat.zero_le _, Nat.zero_le _, rfl⟩
  unfold disableLink
  dsimp only
  split
  · exact disabled.trans (Calm.keeps ⟨settings_ownerLost l _ _, tracks_ownerLost l _⟩)
  · exact disabled

theorem disableLinkCmd_keeps (p : List Byte) (s : State) : (disableLinkCmd p s).leaves (Keeps s) := by
  unfold disableLinkCmd
  repeat' split
  · trivial
  · trivial
  next l _ _ => exact keeps_disableLink l s
  · trivial

theorem lockStationIdCmd_keeps (p : List Byte) (s : State) : (lockStationIdCmd p s).leaves (Keeps s) := by
  unfold lockStationIdCmd
  repeat' split
  · trivial
  · trivial
  · trivial
  next l _ _ _ _ => exact (Keeps.refl s).updLink l

theorem testLinkCmd_keeps (p : List Byte) (s : State) : (testLinkCmd p s).leaves (Keeps s) := by
  unfold testLinkCmd
  repeat' split
  · trivial
  · trivial
  next l _ inRange =>
    refine (Keeps.refl s).updLink l fun r h => ?_
    obtain ⟨crc, low, high, late, -, watchdog⟩ := h
    exact ⟨crc, low, high, late, inRange.2, watchdog⟩
  · trivial

theorem readStationCmd_keeps (p : List Byte) (s : State) : (readStationCmd p s).leaves (Keeps s) := by
  unfold readStationCmd
  repeat' split
  · trivial
  · trivial
  next l _ =>
    refine (Keeps.refl s).updLink l fun r h => ?_
    obtain ⟨-, low, high, -, rest⟩ := h
    exact ⟨Nat.zero_le _, low, high, Nat.zero_le _, rest⟩

/-! ### The link's own commands -/

theorem keeps_cease (c : CondId) (s : State) : Keeps s (cease c s) := Calm.keeps ⟨settings_cease c s, tracks_cease c⟩

theorem keeps_conditionRead (k : CondId) (s : State) : Keeps s (conditionRead k s) := by
  unfold conditionRead
  split
  · exact (Keeps.withLog (l := { s.log with aged := false }) id).syncLog
  · exact .refl s
  all_goals exact keeps_cease _ s

theorem readConditionCmd_keeps (p : List Byte) (s : State) : (readConditionCmd p s).leaves (Keeps s) := by
  unfold readConditionCmd
  split
  · trivial
  · split
    · dsimp only
      unfold CmdResult.leaves
      dsimp only
      split
      · exact .refl s
      · exact keeps_conditionRead _ s
    · trivial

theorem resetCellCmd_keeps (p : List Byte) (s : State) : (resetCellCmd p s).leaves (Keeps s) := by
  unfold resetCellCmd
  split
  · trivial
  · exact .withHost id

/-! ## The commands of the index -/

/-- Every command of the index keeps the ranges: those above write in them, the others in none of their fields. -/
theorem commandOf_keeps {k : Nat} {c : List Byte → State → CmdResult} (hc : commandOf k = some c) (p : List Byte)
    (s : State) : (c p s).leaves (Keeps s) := by
  unfold commandOf at hc
  split at hc
  all_goals cases hc
  case h_8 => exact setBinsCmd_keeps p s
  case h_9 => exact useBankCmd_keeps p s
  case h_10 => exact setGroupsCmd_keeps p s
  case h_13 => exact promoteCmd_keeps p s
  case h_15 => exact mountCmd_keeps p s
  case h_23 => exact setLaneCmd_keeps p s
  case h_24 => exact readLaneCmd_keeps p s
  case h_25 => exact restoreLaneCmd_keeps p s
  case h_26 => exact setForceCmd_keeps p s
  case h_27 => exact readForceCmd_keeps p s
  case h_28 => exact setLogCmd_keeps p s
  case h_29 => exact fetchLogCmd_keeps p s
  case h_31 => exact holdCmd_keeps p s
  case h_32 => exact stopCmd_keeps p s
  case h_36 => exact enableLinkCmd_keeps p s
  case h_37 => exact resetLinkCmd_keeps p s
  case h_38 => exact disableLinkCmd_keeps p s
  case h_39 => exact lockStationIdCmd_keeps p s
  case h_40 => exact testLinkCmd_keeps p s
  case h_42 => exact readStationCmd_keeps p s
  case h_45 => exact readConditionCmd_keeps p s
  case h_47 => exact resetCellCmd_keeps p s
  all_goals simp only [mapOpenCmd, mapRowsCmd, mapCloseCmd, mapDropCmd, mapMarkCmd, mapReadCmd, mapSummaryCmd,
    readClassesCmd, stageRecipeCmd, readRecipeCmd, dismountCmd, setWaferIdCmd, setOffsetCmd, setStripTypeCmd,
    stripLockCmd, readUnitsCmd, readTokensCmd, runCmd, setCellCmd, relaxUnit, voidUnit, setLimitsCmd, pingCmd,
    statusCmd, setNoticesCmd, unitCmd]
  all_goals repeat' split
  all_goals simp [CmdResult.leaves, Keeps.of_same, selectionChange, State.mapUnit, State.updSlot, State.updTable]

theorem keeps_command {k : Nat} {c : List Byte → State → CmdResult} (hc : commandOf k = some c) (tag : Byte)
    (p : List Byte) (s : State) : Keeps s (command k tag (c p) s) :=
  command_keeps (P := Keeps s) (fun _ _ _ _ => Keeps.reply _ _ _) (fun _ _ => Keeps.closeEvent _) (.refl s)
    (commandOf_keeps hc p s)

/-! ## Frames in, records out and resets -/

theorem LinkRec.inRange_reset : LinkRec.reset.inRange := by
  refine ⟨?_, ?_, ?_, ?_, ?_, rfl⟩ <;> decide

theorem LaneRec.inRange_reset : LaneRec.reset.inRange := by
  refine ⟨?_, ?_, ?_, ?_⟩ <;> decide

theorem Monitor.inRange_reset : Monitor.reset.inRange :=
  ⟨figureInRange_none, Nat.zero_le _, figureInRange_none, figureInRange_none, Nat.zero_le _, fun off => nomatch off⟩

theorem Log.inRange_reset : Log.reset.inRange := by
  refine ⟨?_, ?_, ?_, rfl, ?_, ?_⟩ <;> decide

theorem bankInRange_replicate_none : bankInRange (List.replicate 64 none) := by
  refine ⟨List.length_replicate, fun e he k hk => ?_, by decide⟩
  rw [List.eq_of_mem_replicate he] at hk
  cases hk

theorem ClassTables.inRange_reset : ClassTables.reset.inRange :=
  ⟨bankInRange_replicate_none, bankInRange_replicate_none, List.length_replicate⟩

theorem HostLink.inRange_reset (cause : ResetCause) (straps : Straps) : (HostLink.reset cause straps).inRange :=
  ⟨Nat.zero_le _, Nat.zero_le _⟩

theorem keeps_afterReset (cause : ResetCause) (straps : Straps) (s : State) :
    Keeps s (State.afterReset cause straps s.pending) := by
  refine ⟨rfl, fun _ => ClassTables.inRange_reset, fun _ n => ?_, fun _ n => ?_, fun _ => HostLink.inRange_reset _ _,
    fun _ => ⟨fun l => ?_, Log.inRange_reset⟩⟩
  · cases n <;> exact LaneRec.inRange_reset
  · cases n <;> exact Monitor.inRange_reset
  · cases l <;> exact LinkRec.inRange_reset

theorem keeps_takeCommand (f : Frame) (s : State) : Keeps s (takeCommand f s) := by
  unfold takeCommand
  split
  next c hc => exact keeps_command hc f.tag f.payload s
  · exact (Keeps.refl s).reply _ _ _

theorem keeps_takeQueued (s : State) : Keeps s (takeQueued s) := by
  unfold takeQueued
  split
  · exact .refl s
  next f rest queue =>
    split
    · exact .refl s
    · have taken : Keeps s { s with host := { s.host with queue := rest } } := .withHost fun h => by
        have room := h.1
        rw [queue, List.length_cons] at room
        exact ⟨Nat.le_of_succ_le room, h.2⟩
      exact taken.trans (keeps_takeCommand f _)

theorem keeps_discardFrame (cause : DiscardCause) (s : State) : Keeps s (discardFrame cause s) := by
  have counted : Keeps s { s with host := { s.host with discards := min 65535 (s.host.discards + 1) } } :=
    .withHost fun h => ⟨h.1, Nat.min_le_left _ _⟩
  exact counted.raise _

theorem keeps_frameReceivedEvent (kind tag : Byte) (p : List Byte) (check : BitVec 16) (s : State) :
    Keeps s (frameReceivedEvent kind tag p check s) := by
  unfold frameReceivedEvent
  split
  · exact keeps_discardFrame _ s
  split
  · exact keeps_discardFrame _ s
  split
  · exact keeps_discardFrame _ s
  next room =>
    have joined : Keeps s { s with host := { s.host with queue := s.host.queue ++ [⟨kind, tag, p⟩] } } :=
      .withHost fun h => by
        refine ⟨?_, h.2⟩
        rw [List.length_append, List.length_singleton]
        omega
    exact joined.trans (keeps_takeQueued _)

theorem Keeps.ite {p : Prop} [Decidable p] {s t : State} (h : Keeps s t) : Keeps s (if p then t else s) := by
  split
  · exact h
  · exact .refl s

theorem keeps_recordSentEvent (s : State) : Keeps s (recordSentEvent s) := by
  unfold recordSentEvent
  split
  · exact .refl s
  next rest _ =>
    split
    · exact keeps_afterReset _ _ s
    · have sent : Keeps s { s with host := { s.host with tx := rest } } := .withHost id
      exact sent.trans (keeps_takeQueued _)

theorem keeps_unknownKindEvent (kind tag : Byte) (s : State) : Keeps s (unknownKindEvent kind tag s) := by
  unfold unknownKindEvent
  split
  · exact (Keeps.refl s).reply _ _ _
  · exact .refl s

/-! ## The reports that move a setting -/

theorem Keeps.takeReport {s : State} (l : Link) (n : Byte) {fits : OrderKind → Bool} {f : State → State}
    (h : ∀ o, (s.links.get l).outstanding = some o → fits o.kind = true → Keeps s (f s)) :
    Keeps s (takeReport l n fits f s) := by
  unfold Machine.takeReport
  split
  · split
    · exact (linkLocal_lateReport l s).keeps
    next o ho =>
      split
      · split
        next fit => exact h o ho fit
        · exact (linkLocal_stationError l none s).keeps
      · exact (linkLocal_lateReport l s).keeps
  · exact .refl s

theorem keeps_completing (l : Link) {f : State → State} (h : ∀ t, Keeps t (f t)) (s : State) :
    Keeps s (completing l f s) :=
  ((Calm.keeps ⟨settings_endOrder l s, tracks_endOrder l⟩ : Keeps s (endOrder l s)).trans (h _)).closeEvent s

theorem keeps_bonderReport (l : Link) (n : Byte) {fits : Lane → OrderKind → State → Bool} {f : Lane → State → State}
    {s : State} (h : ∀ m o, laneOfLink l = some m → (s.links.get l).outstanding = some o → fits m o.kind s = true →
      Keeps s (f m s)) : Keeps s (bonderReport l n fits f s) := by
  unfold bonderReport
  split
  next m hm => exact Keeps.takeReport l n fun o ho fit => h m o hm ho fit
  · exact Keeps.takeReport l n fun _ _ fit => nomatch fit

theorem keeps_sendBond (n : Lane) (t : Token) (d : Dest) (u : StripUnit) (p : Position) (r : Recipe) (s : State) :
    Keeps s (sendBond n t d u p r s) := by
  have spread (c : PerLane (PerQuad (BitVec 5))) : Keeps s { s with recipes := { s.recipes with cycle := c } } :=
    .of_same rfl rfl rfl rfl rfl rfl rfl
  exact Keeps.sendOrder _ _ _ ((spread _).updLane n)

theorem keeps_takenEffect (n : Lane) (s : State) : Keeps s (takenEffect n s) := by
  unfold takenEffect
  split
  · exact .refl s
  next t _ =>
    have moved : Keeps s (((moveToken t (.collet n) s).updLane n fun r =>
        { r with nest := .empty, settleTimer := none })) :=
      Calm.keeps (((Calm.refl s).moveToken t _).updLane n)
    dsimp only
    split
    · exact moved.trans (keeps_sendBond ..)
    · exact moved.trans (Calm.keeps ((Calm.refl _).purgeCollet n))

theorem figureInRange_some {v : Nat} (h : v ≤ 1023) : figureInRange (some v) := fun _ e => by cases e; exact h

theorem Monitor.inRange.openDwell {m : Monitor} (h : m.inRange) : m.openDwell.inRange := by
  obtain ⟨latest, -, -, -, -, off⟩ := h
  refine ⟨latest, ?_, figureInRange_none, figureInRange_none, Nat.zero_le _, off⟩
  unfold Monitor.openDwell
  dsimp only
  split
  · cases sampled : m.latest with
    | none => exact Nat.zero_le _
    | some v => exact latest v sampled
  · exact Nat.zero_le _

theorem laneOfLink_eq_some {l : Link} {n : Lane} (h : laneOfLink l = some n) : l = bonderLink n := by
  cases l <;> cases h <;> rfl

/-- TOUCHED restarts the watchdog of a link whose order stands. -/
theorem keeps_touchedEffect (n : Lane) {s : State} (busy : (s.links.get (bonderLink n)).outstanding.isSome = true) :
    Keeps s (touchedEffect n s) := by
  have opened : Keeps s ((s.updLane n fun r => { r with collet := .dwell }).updMonitor n Monitor.openDwell) :=
    ((Keeps.refl s).updLane n).updMonitor n fun m h => h.openDwell
  refine opened.trans ⟨rfl, id, id, id, id, fun h => ⟨fun l => ?_, h.2⟩⟩
  unfold touchedEffect
  rw [updLink_get]
  split
  · obtain ⟨crc, low, high, late, test, -⟩ := h.1 (bonderLink n)
    exact ⟨crc, low, high, late, test, busy.symm⟩
  · exact h.1 l

theorem keeps_countOffsetFault (n : Lane) (s : State) : Keeps s (countOffsetFault n s) := by
  have counted (d : Bool) : Keeps s (s.updLane n fun r =>
      { r with offsetFailures := min 255 ((s.lanes.get n).offsetFailures + 1), degraded := d }) :=
    (Keeps.refl s).updLane n fun r h => LaneRec.inRange_setFailures d (Nat.min_le_left _ _) h
  unfold countOffsetFault
  dsimp only
  split
  · exact (counted true).raise _
  · exact (Keeps.refl s).updLane n fun r h => LaneRec.inRange_setFailures r.degraded (Nat.min_le_left _ _) h

theorem keeps_bondedEffect (n : Lane) (dx dy rotation : Int) (seen : Bool) (s : State) :
    Keeps s (bondedEffect n dx dy rotation seen s) := by
  unfold bondedEffect
  split
  · exact .refl s
  next e _ =>
    dsimp only
    refine Keeps.updLane (Keeps.trans ?_ (Calm.keeps ⟨settings_removeToken e.token _, tracks_removeToken e.token⟩)) n
    have recorded : Keeps s (createRecord e.token .bonded (some n) (some e.context)
        (some (bondFields e (s.monitors.get n) dx dy rotation seen))
        (settlePosition e.token (bondFields e (s.monitors.get n) dx dy rotation seen).result.position
          (s.updMonitor n fun m => { m with state := .idle }))) :=
      ((Keeps.refl s).updMonitor n).trans (Calm.keeps (((Calm.refl _).of_tracks (settings_settlePosition _ _ _)
        (tracks_settlePosition _ _)).of_tracks (settings_createRecord _ _ _ _ _ _) (tracks_createRecord _ _ _ _ _)))
    split
    · exact recorded.trans (keeps_countOffsetFault n _)
    · exact recorded

theorem keeps_arrivedEffect (id : Text) (reported measured : Nat) (xouts : List (Nat × Nat)) (s : State) :
    Keeps s (arrivedEffect id reported measured xouts s) :=
  (keeps_promote s).trans (.of_same rfl rfl rfl rfl rfl rfl rfl)

/-! ## Conversions and the tick -/

theorem Monitor.inRange.idleSample {m : Monitor} {x : Nat} (hx : x ≤ 1023) (h : m.inRange) : (m.idleSample x).inRange := by
  unfold Monitor.idleSample
  split
  next on =>
    obtain ⟨-, tare, low, high, count, -⟩ := h
    exact ⟨figureInRange_some hx, tare, low, high, count, fun off => nomatch on.1.symm.trans off⟩
  · exact h

theorem figureInRange_getD_map {g : Nat → Nat} {o : Option Nat} {v : Nat} (hv : v ≤ 1023)
    (hg : ∀ u, u ≤ 1023 → g u ≤ 1023) (h : figureInRange o) : figureInRange (some ((o.map g).getD v)) := by
  cases o with
  | none => exact figureInRange_some hv
  | some u => exact figureInRange_some (hg u (h u rfl))

theorem Monitor.inRange.dwellSample {m : Monitor} {x : Nat} (hx : x ≤ 1023) (h : m.inRange) :
    (m.dwellSample x).inRange := by
  have reading : x - m.tare ≤ 1023 := Nat.le_trans (Nat.sub_le _ _) hx
  unfold Monitor.dwellSample
  dsimp only
  split
  next on =>
    obtain ⟨latest, tare, low, high, count, off⟩ := h
    exact ⟨latest, tare, figureInRange_getD_map reading (fun u hu => Nat.le_trans (Nat.min_le_left _ _) hu) low,
      figureInRange_getD_map reading (fun u hu => Nat.max_le.2 ⟨hu, reading⟩) high, Nat.min_le_left _ _, off⟩
  · exact h

theorem isSome_countDown (t : Option Nat) : (countDown t).isSome = t.isSome := by
  unfold countDown
  split <;> rfl

theorem LinkRec.inRange.tick {r : LinkRec} (h : r.inRange) : r.tick.inRange := by
  obtain ⟨crc, low, high, late, test, watchdog⟩ := h
  exact ⟨crc, low, high, late, test, (isSome_countDown _).trans watchdog⟩

theorem idleTick_links_get (l : Link) (s : State) : (idleTick s).links.get l = if s.powered then (s.links.get l).tick
    else s.links.get l := by
  unfold idleTick
  split
  · cases l <;> rfl
  · rfl

theorem keeps_idleTick (s : State) : Keeps s (idleTick s) := by
  unfold idleTick
  split
  · refine ⟨rfl, id, fun h n => ?_, id, id, fun h => ⟨fun l => ?_, h.2⟩⟩
    · cases n with
      | one => exact h .one
      | two => exact h .two
    · cases l with
      | ta => exact (h.1 .ta).tick
      | tb => exact (h.1 .tb).tick
      | pk => exact (h.1 .pk).tick
      | b1 => exact (h.1 .b1).tick
      | b2 => exact (h.1 .b2).tick
      | ix => exact (h.1 .ix).tick
  · exact .refl s

/-! ## The rows -/

theorem exec_rstn (crs1 crs0 : Bool) (s : State) :
    exec (.rstn crs1 crs0) s = live (fun t => State.afterReset .pin ⟨crs1, crs0⟩ t.pending) s := rfl

theorem exec_supplyFails (s : State) :
    exec .supplyFails s = live (fun t => { t with powered := false, host := { t.host with tx := [] } }) s := rfl

theorem keeps_of_live {f : State → State} {s t : State} (e : live f s = .next t) (h : Keeps s (f s)) : Keeps s t :=
  live_keeps (P := Keeps s) (.refl s) h e

/-- A row of the index of commands keeps the ranges, since its command does. -/
theorem keeps_of_command {k : Nat} {c : List Byte → State → CmdResult} {tag : Byte} {p : List Byte} {s t : State}
    (hc : commandOf k = some c) (e : live (command k tag (c p)) s = .next t) : Keeps s t :=
  keeps_of_live e (keeps_command hc tag p s)

/-- Every row keeps the ranges. The part's own steps, the expiries and the plain reports move no setting; the other rows
are the resets, the command link, the commands, the reports with a count of their own, and the conversions. -/
theorem exec_keeps {c : Instr} {s t : State} (e : exec c s = .next t) : Keeps s t := by
  by_cases own : ownStep c = true
  · exact (calm_of_ownStep own e).keeps
  cases plain : plainReport c with
  | some l => exact (linkLocal_of_plainReport plain e).keeps
  | none =>
    cases c with
    | powerOn a b => cases e; exact keeps_afterReset _ _ s
    | rstn a b => rw [exec_rstn] at e; exact keeps_of_live e (keeps_afterReset _ _ s)
    | frameReceived kind tag p check => exact keeps_of_live e (keeps_frameReceivedEvent kind tag p check s)
    | discardLength n => exact keeps_of_live e (Keeps.ite (keeps_discardFrame _ s))
    | discardGap n => exact keeps_of_live e (Keeps.ite (keeps_discardFrame _ s))
    | recordSent => exact keeps_of_live e (keeps_recordSentEvent s)
    | unknownKindCommand kind tag _ => exact keeps_of_live e (keeps_unknownKindEvent kind tag s)
    | taken l n =>
      exact keeps_of_live e (keeps_bonderReport l n fun m _ _ _ _ => keeps_completing l (keeps_takenEffect m) s)
    | touched l n =>
      refine keeps_of_live e (keeps_bonderReport l n fun m o hm ho _ => Keeps.closeEvent s (keeps_touchedEffect m ?_))
      rw [← laneOfLink_eq_some hm, ho]
      rfl
    | bonded l n dx dy rotation vision =>
      exact keeps_of_live e (keeps_bonderReport l n fun m _ _ _ _ =>
        keeps_completing l (keeps_bondedEffect m _ _ _ _) s)
    | arrived l n id code pitch count xouts =>
      exact keeps_of_live e (Keeps.takeReport l n fun _ _ _ => keeps_completing l (keeps_arrivedEffect _ _ _ _) s)
    | idleConversion n counts =>
      exact keeps_of_live e ((Keeps.refl s).updMonitor n fun m h => h.idleSample (Nat.min_le_left _ _))
    | dwellConversion n counts =>
      exact keeps_of_live e ((Keeps.refl s).updMonitor n fun m h => h.dwellSample (Nat.min_le_left _ _))
    | supplyFails => rw [exec_supplyFails] at e; exact keeps_of_live e ⟨rfl, id, id, id, id, id⟩
    | relaxUnit tag p => exact keeps_of_command (c := fun p => unitCmd p relaxUnit) (k := 84) rfl e
    | voidUnit tag p => exact keeps_of_command (c := fun p => unitCmd p voidUnit) (k := 85) rfl e
    | mapOpen | mapRows | mapClose | mapDrop | mapMark | mapRead | mapSummary | setBins | useBank | setGroups
    | readClasses | stageRecipe | promote | readRecipe | mount | dismount | setWaferId | setOffset
    | setStripType | stripLock | readUnits | readTokens | setLane | readLane | restoreLane | setForce
    | readForce | setLog | fetchLog | run | hold | stop | setCell | enableLink | resetLink | disableLink
    | lockStationId | testLink | setLimits | readStation | ping | status | readCondition | setNotices
    | resetCell =>
      exact keeps_of_command rfl e
    | unloadWafer _ | grant | settleExpiry _ | take _ | nestPurge _ | loadStrip | stripDone | ejectStrip | enterHeld
    | enterStopped | unitReassignment | starvationExpiry _ | ageTimerExpiry => exact absurd rfl own
    | _ => cases plain

/-- A step keeps the ranges, of the state with the queue that it leaves. -/
theorem step_keeps {s t : State} (e : step s = .next t) : ∃ q, Keeps { s with pending := q } t := by
  unfold step at e
  split at e
  · cases e
    exact ⟨s.pending, keeps_idleTick s⟩
  next rest _ => exact ⟨rest, exec_keeps e⟩

/-! ## The obligations -/

/-- Settles O57: what a step keeps, read for the class tables. -/
theorem stepKeepsTheClassTables : Obligations.StepKeepsTheClassTables := by
  intro s t inRange e
  obtain ⟨_, kept⟩ := step_keeps e
  exact kept.classes inRange

/-- Settles O58: what a step keeps, read for the links and the log. -/
theorem stepKeepsLinksAndLog : Obligations.StepKeepsLinksAndLog := by
  intro s t inRange e
  obtain ⟨_, kept⟩ := step_keeps e
  exact kept.tracks inRange

/-- Settles O59: what a step keeps, read for the lanes with the monitors, and for the command link. -/
theorem stepKeepsLanesMonitorsAndCommandLink : Obligations.StepKeepsLanesMonitorsAndCommandLink := by
  refine ⟨fun s t inRange e => ?_, fun s t inRange e => ?_⟩
  · obtain ⟨_, kept⟩ := step_keeps e
    have lanes := kept.lanes fun n => (inRange n).1
    have monitors := kept.monitors fun n => (inRange n).2
    exact fun n => ⟨lanes n, monitors n⟩
  · obtain ⟨_, kept⟩ := step_keeps e
    exact kept.host inRange

/-- Settles O60: each block's values after reset are in range. -/
theorem resetIsInRange : Obligations.ResetIsInRange := by
  refine ⟨ClassTables.inRange_reset, fun n => ?_, ⟨fun l => ?_, Log.inRange_reset⟩, HostLink.inRange_reset _ _⟩
  · cases n <;> exact ⟨LaneRec.inRange_reset, Monitor.inRange_reset⟩
  · cases l <;> exact LinkRec.inRange_reset

/-- Every command in every state answers a next state. -/
theorem exec_answers (c : Instr) (s : State) : ∃ t, exec c s = .next t := by
  cases c <;> exact ⟨_, rfl⟩

/-- Without supply every command but POWER_ON changes nothing. -/
theorem exec_of_unpowered {c : Instr} {s : State} (off : s.powered = false) (notPowerOn : ∀ a b, c ≠ .powerOn a b) :
    exec c s = .next s := by
  cases c with
  | powerOn a b => exact absurd rfl (notPowerOn a b)
  | rstn a b => rw [exec_rstn, live_off off]
  | supplyFails => rw [exec_supplyFails, live_off off]
  | _ => exact live_off off

/-- Settles O5: the rows answer, live rows stand without supply, and every row keeps the queue. -/
theorem supplyAndTotality : Obligations.SupplyAndTotality := by
  refine ⟨⟨fun s on => by rw [exec_supplyFails, live_on on],
    fun c s off notPowerOn => exec_of_unpowered off notPowerOn⟩, fun c s => ?_⟩
  obtain ⟨t, e⟩ := exec_answers c s
  exact ⟨t, e, (exec_keeps e).pending⟩

end Sys2Proof.Machine

/-! The first front command, the tick, the resets and the fine value's table (StepTakesTheFrontCommand,
EmptyQueueLetsTimePass, ResetGivesTheTablesValues, EveryResetGivesTheResetValues, FineValueGivesItsExtraQuanta). -/

namespace Sys2Proof.Machine

/-- Settles O1: a step looks at the front of the queue alone. -/
theorem stepTakesTheFrontCommand : Obligations.StepTakesTheFrontCommand := fun _ _ _ => rfl

/-! ## The tick -/

/-- A timer that runs counts down, not below 1; a stopped one stays stopped. -/
theorem countDown_eq_map (t : Option Nat) : countDown t = t.map fun k => if k ≤ 1 then k else k - 1 := by
  match t with
  | none => rfl
  | some 0 => rfl
  | some 1 => rfl
  | some (n + 2) => simp [countDown]

theorem LaneRec.tick_eq (r : LaneRec) :
    r.tick = { r with settleTimer := r.settleTimer.map fun k => if k ≤ 1 then k else k - 1 } := by
  rw [tick, countDown_eq_map]

theorem Wait.tick_eq (w : Wait) : w.tick = { w with timer := w.timer.map fun k => if k ≤ 1 then k else k - 1 } := by
  rw [tick, countDown_eq_map]

theorem LinkRec.tick_eq (r : LinkRec) : r.tick = { r with
    watchdog := r.watchdog.map fun k => if k ≤ 1 then k else k - 1
    callTimer := r.callTimer.map fun k => if k ≤ 1 then k else k - 1
    breakTimer := r.breakTimer.map fun k => if k ≤ 1 then k else k - 1 } := by
  rw [tick, countDown_eq_map, countDown_eq_map, countDown_eq_map]

theorem step_of_empty {s : State} (empty : s.pending = []) : step s = .next (idleTick s) := by
  unfold step
  rw [empty]

theorem idleTick_of_powered {s : State} (on : s.powered = true) : idleTick s = { s with
    lanes := ⟨s.lanes.one.tick, s.lanes.two.tick⟩
    log := { s.log with ageTimer := countDown s.log.ageTimer }
    control := { s.control with waits := ⟨s.control.waits.one.tick, s.control.waits.two.tick⟩ }
    links := ⟨s.links.ta.tick, s.links.tb.tick, s.links.pk.tick, s.links.b1.tick, s.links.b2.tick, s.links.ix.tick⟩ } :=
  if_pos on

theorem idleTick_of_unpowered {s : State} (off : s.powered = false) : idleTick s = s :=
  if_neg (Bool.eq_false_iff.1 off)

/-- Settles O2: the tick is read timer by timer. -/
theorem emptyQueueLetsTimePass : Obligations.EmptyQueueLetsTimePass := by
  intro s empty
  rw [step_of_empty empty]
  refine ⟨fun off => by rw [idleTick_of_unpowered off], fun on => ⟨_, rfl, ?_⟩⟩
  rw [idleTick_of_powered on]
  refine ⟨fun n => ?lane, fun n => ?wait, fun l => ?link, ?rest⟩
  case lane => cases n <;> exact LaneRec.tick_eq _
  case wait => cases n <;> exact Wait.tick_eq _
  case link => cases l <;> exact LinkRec.tick_eq _
  case rest => rw [countDown_eq_map]

/-! ## The resets -/

/-- Settles O3: each block's values after reset, block by block. -/
theorem resetGivesTheTablesValues : Obligations.ResetGivesTheTablesValues := by
  have entry (k : Nat) (h : k < 64) : (List.replicate 64 (none : Option Nat))[k]? = some none := by
    rw [List.getElem?_replicate, if_pos h]
  refine ⟨fun i => ?slot, rfl, fun b k h => ?bank, fun k h => ?group, fun t => ?recipe, fun k => ?table, fun n => ?mark,
    fun c => ?stripType, rfl, rfl, rfl, rfl, fun n => ?lane, fun n => ?monitor, rfl, rfl, fun l => ?link, rfl, rfl, rfl,
    rfl, fun c => ?cond⟩
  case slot => cases i <;> rfl
  case bank => cases b <;> exact entry k h
  case group => exact List.getElem?_replicate.trans (if_pos h)
  case recipe => cases t <;> exact ⟨rfl, rfl, rfl, fun n => by cases n <;> rfl⟩
  case table => cases k <;> rfl
  case mark => cases n <;> rfl
  case stripType => cases c <;> rfl
  case lane => cases n <;> rfl
  case monitor => cases n <;> rfl
  case link => cases l <;> rfl
  case cond => cases c <;> rfl

/-- Once the reply of a RESET-CELL has gone out, the part resets (R196). -/
theorem recordSentEvent_of_resetDue {s : State} {r : TxRecord} {rest : List TxRecord} (tx : s.host.tx = r :: rest)
    (due : s.host.resetDue = true) (reply : r.isResetReply = true) :
    recordSentEvent s = State.afterReset .command s.pins s.pending := by
  simp only [recordSentEvent, tx, due, reply, Bool.and_self, if_true]

/-- Settles O4: the three resets are one reset with their cause and straps. -/
theorem everyResetGivesTheResetValues : Obligations.EveryResetGivesTheResetValues := by
  refine ⟨fun a b s => rfl, fun a b s on => ?pin, fun tag rest s on due tx => ?command⟩
  case pin =>
    rw [exec_rstn, live_on on]
    rfl
  case command =>
    have sent : exec .recordSent s = .next (recordSentEvent s) := live_on on
    rw [sent, recordSentEvent_of_resetDue tx due rfl]
    rfl

/-! ## The fine value -/

/-- The indexes that each component of a fine value owns (Table 2-2). -/
theorem component_indexes (i : Fin 32) :
    (i.val % 2 = 1 ↔ i.val ∈ [1, 3, 5, 7, 9, 11, 13, 15, 17, 19, 21, 23, 25, 27, 29, 31]) ∧
    (i.val % 4 = 2 ↔ i.val ∈ [2, 6, 10, 14, 18, 22, 26, 30]) ∧ (i.val % 8 = 4 ↔ i.val ∈ [4, 12, 20, 28]) ∧
    (i.val % 16 = 8 ↔ i.val ∈ [8, 24]) ∧ (i.val % 32 = 16 ↔ i.val ∈ [16]) := by
  revert i
  decide

theorem extraQuantum_iff (fine index : Nat) : extraQuantum fine index = true ↔
    (fine.testBit 4 = true ∧ index % 2 = 1) ∨ (fine.testBit 3 = true ∧ index % 4 = 2) ∨
      (fine.testBit 2 = true ∧ index % 8 = 4) ∨ (fine.testBit 1 = true ∧ index % 16 = 8) ∨
      (fine.testBit 0 = true ∧ index % 32 = 16) := by
  simp only [extraQuantum, Bool.or_eq_true, Bool.and_eq_true, beq_iff_eq, or_assoc]

/-- Settles O20: each component owns its indexes, and the 32 fine values are counted out. -/
theorem fineValueGivesItsExtraQuanta : Obligations.FineValueGivesItsExtraQuanta := by
  refine ⟨fun f i => ?_, by decide, fun r i => rfl⟩
  obtain ⟨odd, two, four, eight, sixteen⟩ := component_indexes i
  rw [extraQuantum_iff, odd, two, four, eight, sixteen]

end Sys2Proof.Machine

/-! What a live row gives by what its command answers, and how a frame reaches the row of its kind (R187, R188, R189). -/

namespace Sys2Proof.Machine

/-! ## The taking of a command -/

/-- A command that answers DONE with no more than its own record changed. -/
theorem live_answers {kind : Nat} {tag : Byte} {c : State → CmdResult} {s t : State} {values : List Byte}
    (on : s.powered = true) (h : c s = .answers t values) :
    live (command kind tag c) s = .next (reply kind tag (0 :: values) t) := by
  rw [live_on on, command_of_answers h]

/-- A command that answers DONE after effects that others act on. -/
theorem live_acts {kind : Nat} {tag : Byte} {c : State → CmdResult} {s t : State} {values : List Byte}
    (on : s.powered = true) (h : c s = .acts t values) :
    live (command kind tag c) s = .next (reply kind tag (0 :: values) (closeEvent s t)) := by
  rw [live_on on, command_of_acts h]

theorem live_refused {kind : Nat} {tag : Byte} {c : State → CmdResult} {s : State} {r : Status} {values : List Byte}
    (on : s.powered = true) (h : c s = .refused r values) :
    live (command kind tag c) s = .next (reply kind tag (r.code :: values) s) := by
  rw [live_on on, command_of_refused h]

/-! ## The index of commands -/

/-- The row of a kind is the taking of the command of that kind. -/
theorem commandOf_of_hostRow {k : Nat} {row : Byte → List Byte → Instr} (h : hostRow k = some row) :
    ∃ c, commandOf k = some c ∧ ∀ tag p s, exec (row tag p) s = live (command k tag (c p)) s := by
  unfold hostRow at h
  split at h <;> cases h <;> exact ⟨_, rfl, fun _ _ _ => rfl⟩

theorem hostRow_of_commandOf {k : Nat} {c : List Byte → State → CmdResult} (h : commandOf k = some c) :
    ∃ row, hostRow k = some row := by
  unfold commandOf at h
  split at h <;> cases h <;> exact ⟨_, rfl⟩

theorem commandOf_of_no_hostRow {k : Nat} (h : hostRow k = none) : commandOf k = none := by
  cases e : commandOf k with
  | none => rfl
  | some c =>
    obtain ⟨row, indexed⟩ := hostRow_of_commandOf e
    exact absurd (h.symm.trans indexed) nofun

/-- The row of a frame's kind takes the frame (R188). -/
theorem exec_of_hostRow {f : Frame} {row : Byte → List Byte → Instr} {s : State} (h : hostRow f.kind.toNat = some row)
    (on : s.powered = true) : exec (row f.tag f.payload) s = .next (takeCommand f s) := by
  obtain ⟨c, indexed, taken⟩ := commandOf_of_hostRow h
  rw [taken, live_on on]
  simp only [takeCommand, indexed]

/-- A frame of a kind outside the index is taken by UNKNOWN_KIND_COMMAND (R189). -/
theorem exec_of_no_hostRow {f : Frame} {s : State} (h : hostRow f.kind.toNat = none) (on : s.powered = true) :
    exec (.unknownKindCommand f.kind f.tag f.payload) s = .next (takeCommand f s) := by
  have row : exec (.unknownKindCommand f.kind f.tag f.payload) s = .next (unknownKindEvent f.kind f.tag s) := live_on on
  rw [row]
  simp only [takeCommand, unknownKindEvent, commandOf_of_no_hostRow h]

/-! ## The queue -/

theorem takeQueued_of_empty {s : State} (empty : s.host.queue = []) : takeQueued s = s := by
  simp only [takeQueued, empty]

/-- While a reply or STARTED is still to be sent the queue waits (R188). -/
theorem takeQueued_of_waiting {s : State} (waits : s.host.replyWaits = true ∨ s.host.startedWaits = true) :
    takeQueued s = s := by
  have held : (s.host.replyWaits || s.host.startedWaits) = true := Bool.or_eq_true _ _ ▸ waits
  unfold takeQueued
  split
  · rfl
  · rw [if_pos held]

/-- With nothing but notices to send the oldest frame is taken (R188). -/
theorem takeQueued_of_free {s : State} {f : Frame} {rest : List Frame} (queue : s.host.queue = f :: rest)
    (noReply : s.host.replyWaits = false) (noStarted : s.host.startedWaits = false) :
    takeQueued s = takeCommand f { s with host := { s.host with queue := rest } } := by
  simp only [takeQueued, queue, noReply, noStarted, Bool.or_self, Bool.false_eq_true, if_false]

end Sys2Proof.Machine

/-! Which frames are discarded, queued and taken, how whole frames are read, and what the sending of a record moves on
(BadFramesAreDiscarded, GoodFramesAreQueuedOrTaken, RecordSentMovesOn). -/

namespace Sys2Proof.Machine

/-! ## Frames received -/

theorem lengthBad_iff {n : BitVec 16} : lengthBad n = true ↔ n.toNat < 2 ∨ 242 < n.toNat := by
  simp only [lengthBad, Bool.or_eq_true, decide_eq_true_iff]

theorem gapTooLong_iff {r : Straps} {cycles : Nat} : gapTooLong r cycles = true ↔ 200 * 25000000 < cycles * r.baud :=
  decide_eq_true_iff

section Received

variable {kind tag : Byte} {p : List Byte} {check : BitVec 16} {s : State}

theorem frameReceivedEvent_bad_check (fits : p.length ≤ 240) (bad : crc16 (frameBody kind tag p) ≠ check) :
    frameReceivedEvent kind tag p check s = discardFrame .check s := by
  rw [frameReceivedEvent, if_neg (Nat.not_lt.2 fits), if_pos bad]

theorem frameReceivedEvent_full (fits : p.length ≤ 240) (full : 4 ≤ s.host.queue.length) :
    frameReceivedEvent kind tag p (crc16 (frameBody kind tag p)) s = discardFrame .full s := by
  rw [frameReceivedEvent, if_neg (Nat.not_lt.2 fits), if_neg (not_not_intro rfl)]
  exact if_pos full

/-- A good frame with room in the queue joins it, and the oldest frame is taken if one may be (R187, R188). -/
theorem frameReceivedEvent_good (fits : p.length ≤ 240) (room : s.host.queue.length < 4) :
    frameReceivedEvent kind tag p (crc16 (frameBody kind tag p)) s =
      takeQueued { s with host := { s.host with queue := s.host.queue ++ [⟨kind, tag, p⟩] } } := by
  rw [frameReceivedEvent, if_neg (Nat.not_lt.2 fits), if_neg (not_not_intro rfl)]
  exact if_neg (Nat.not_le.2 room)

/-- A good frame that finds the queue empty and nothing but notices to send is taken at once (R188). -/
theorem frameReceivedEvent_taken (fits : p.length ≤ 240) (empty : s.host.queue = []) (noReply : s.host.replyWaits = false)
    (noStarted : s.host.startedWaits = false) :
    frameReceivedEvent kind tag p (crc16 (frameBody kind tag p)) s = takeCommand ⟨kind, tag, p⟩ s := by
  have room : s.host.queue.length < 4 := by rw [empty]; decide
  have unchanged : { s with host := { s.host with queue := [] } } = s := by rw [← empty]
  have oldest : s.host.queue ++ [⟨kind, tag, p⟩] = ⟨kind, tag, p⟩ :: [] := by rw [empty]; rfl
  have free := takeQueued_of_free (s := { s with host := { s.host with queue := s.host.queue ++ [⟨kind, tag, p⟩] } })
    oldest noReply noStarted
  rw [frameReceivedEvent_good fits room, free]
  exact congrArg _ unchanged

end Received

/-- Settles O6: each cause of a discard is one branch of its event. -/
theorem badFramesAreDiscarded : Obligations.BadFramesAreDiscarded := by
  intro s on
  refine ⟨fun n bad => ?length, fun cycles long => ?gap, fun kind tag p check fits bad => ?check,
    fun kind tag p check fits good full => ?full⟩
  case length =>
    have event : exec (.discardLength n) s = .next (discardLengthEvent n s) := live_on on
    rw [event, discardLengthEvent, if_pos (lengthBad_iff.2 bad)]
    rfl
  case gap =>
    have event : exec (.discardGap cycles) s = .next (discardGapEvent cycles s) := live_on on
    rw [event, discardGapEvent, if_pos (gapTooLong_iff.2 long)]
    rfl
  case check =>
    have event : exec (.frameReceived kind tag p check) s = .next (frameReceivedEvent kind tag p check s) := live_on on
    rw [event, frameReceivedEvent_bad_check fits bad]
    rfl
  case full =>
    have event : exec (.frameReceived kind tag p check) s = .next (frameReceivedEvent kind tag p check s) := live_on on
    rw [event, ← good, frameReceivedEvent_full fits full]
    rfl

/-! ## The bytes of a frame -/

theorem toNat_word16 (lo hi : Byte) : (word16 lo hi).toNat = lo.toNat + 256 * hi.toNat := by
  rw [word16, BitVec.toNat_ofNat, nat16]
  have low := lo.isLt
  have high := hi.isLt
  omega

theorem toNat_u16_bytes {n : Nat} (h : n < 65536) :
    (BitVec.ofNat 8 n).toNat + 256 * (BitVec.ofNat 8 (n / 256)).toNat = n := by
  rw [BitVec.toNat_ofNat, BitVec.toNat_ofNat]
  omega

/-- A frame whose length bytes give a length no frame may have is discarded at the second of them (R187). -/
theorem readFrame_bad_length {lo hi : Byte} (bad : lengthBad (word16 lo hi) = true) (rest : List Byte) :
    readFrame (195 :: lo :: hi :: rest) = some (.discardLength (word16 lo hi)) := by
  simp only [readFrame, bad, if_true, ne_eq, not_true_eq_false, if_false]

/-- A whole frame of a good length is read field by field (Table 11-4). -/
theorem readFrame_whole {lo hi kind tag checkLo checkHi : Byte} {p : List Byte} (good : lengthBad (word16 lo hi) = false)
    (length : (word16 lo hi).toNat = p.length + 2) :
    readFrame (195 :: lo :: hi :: (kind :: tag :: p ++ [checkLo, checkHi])) =
      some (.frameReceived kind tag p (word16 checkLo checkHi)) := by
  have whole : (kind :: tag :: p).length = (word16 lo hi).toNat := by rw [length]; rfl
  simp only [readFrame, good, ne_eq, not_true_eq_false, if_false, Bool.false_eq_true, List.drop_left' whole,
    List.take_left' whole]

/-- Settles O7: the queue's two cases, then the two readings of a frame's bytes. -/
theorem goodFramesAreQueuedOrTaken : Obligations.GoodFramesAreQueuedOrTaken := by
  refine ⟨fun kind tag p s on fits room waits => ?queued, fun kind tag p s on fits empty noReply noStarted => ?taken,
    fun kind tag lo hi p fits => ?whole, fun lo hi rest bad => ?badLength⟩
  case queued =>
    have event : exec (.frameReceived kind tag p (crc16 (frameBody kind tag p))) s =
      .next (frameReceivedEvent kind tag p (crc16 (frameBody kind tag p)) s) := live_on on
    rw [event, frameReceivedEvent_good fits room]
    exact congrArg _ (takeQueued_of_waiting waits)
  case taken =>
    have event : exec (.frameReceived kind tag p (crc16 (frameBody kind tag p))) s =
      .next (frameReceivedEvent kind tag p (crc16 (frameBody kind tag p)) s) := live_on on
    rw [event, frameReceivedEvent_taken fits empty noReply noStarted]
    exact ⟨fun row indexed => (exec_of_hostRow (f := ⟨kind, tag, p⟩) indexed on).symm,
      fun outside => (exec_of_no_hostRow (f := ⟨kind, tag, p⟩) outside on).symm⟩
  case whole =>
    have length : (word16 (BitVec.ofNat 8 (p.length + 2)) (BitVec.ofNat 8 ((p.length + 2) / 256))).toNat = p.length + 2 := by
      rw [toNat_word16, toNat_u16_bytes (by omega)]
    have good : lengthBad (word16 (BitVec.ofNat 8 (p.length + 2)) (BitVec.ofNat 8 ((p.length + 2) / 256))) = false := by
      rw [← Bool.not_eq_true, lengthBad_iff, length]
      omega
    exact readFrame_whole good length
  case badLength => exact readFrame_bad_length (lengthBad_iff.2 (by rw [toNat_word16]; exact bad)) rest

/-! ## Records sent -/

/-- A record that has gone out leaves the list, and the oldest frame is taken if one may be (R188, R190). -/
theorem recordSentEvent_of_no_reset {s : State} {r : TxRecord} {rest : List TxRecord} (tx : s.host.tx = r :: rest)
    (noReset : s.host.resetDue = false) :
    recordSentEvent s = takeQueued { s with host := { s.host with tx := rest } } := by
  simp only [recordSentEvent, tx, noReset, Bool.and_false, Bool.false_eq_true, if_false]

/-- Settles O8: what is left on CTX decides whether the oldest frame is taken. -/
theorem recordSentMovesOn : Obligations.RecordSentMovesOn := by
  intro r rest s on tx noReset
  have event : exec .recordSent s = .next (takeQueued { s with host := { s.host with tx := rest } }) :=
    (show exec .recordSent s = .next (recordSentEvent s) from live_on on).trans
      (congrArg _ (recordSentEvent_of_no_reset tx noReset))
  rw [event]
  refine ⟨fun empty => ?empty, fun waits => ?waits, fun noReply noStarted f more row queue indexed => ?row,
    fun noReply noStarted f more queue outside => ?unknown⟩
  case empty => exact congrArg _ (takeQueued_of_empty empty)
  case waits => exact congrArg _ (takeQueued_of_waiting waits)
  case row =>
    rw [takeQueued_of_free (s := { s with host := { s.host with tx := rest } }) queue noReply noStarted]
    exact Eq.symm (exec_of_hostRow indexed on)
  case unknown =>
    rw [takeQueued_of_free (s := { s with host := { s.host with tx := rest } }) queue noReply noStarted]
    exact Eq.symm (exec_of_no_hostRow outside on)

end Sys2Proof.Machine

/-! The condition unit and the link's own commands (SetNoticesResetCellAndUnknownKind, RaisingAConditionMakesOneNotice,
ReadsChangeNothing, ReadConditionReturnsTheFirstPending). -/

namespace Sys2Proof.Machine

/-! ## SET-NOTICES, RESET-CELL and kinds outside the index -/

@[simp] theorem flagOf_flag (b : Bool) : flagOf (flag b) = some b := by
  cases b <;> rfl

/-- The nine enables as Booleans, written into the conditions. -/
def Conds.withEnables (c : Conds) (a b d e f g h i j : Bool) : Conds :=
  ⟨⟨c.stationFault.detail, a⟩, ⟨c.cellHeld.detail, b⟩, ⟨c.laneOut.detail, d⟩, ⟨c.unitStarved.detail, e⟩,
    ⟨c.waferExhausted.detail, f⟩, ⟨c.mountDone.detail, g⟩, ⟨c.log.detail, h⟩, ⟨c.stripDone.detail, i⟩,
    ⟨c.linkDiscard.detail, j⟩⟩

theorem setNoticesCmd_flags (a b d e f g h i j : Bool) (s : State) :
    setNoticesCmd ([a, b, d, e, f, g, h, i, j].map flag) s =
      .answers { s with conds := s.conds.withEnables a b d e f g h i j }
        (s.conds.enableFlags ++ s.conds.pendingFlags) := by
  simp only [List.map_cons, List.map_nil, setNoticesCmd, readNotices, NoticeFlags.write, flagOf_flag]
  rfl

/-- The reply mark is 128 more than the kind, as a byte (Table 11-5). -/
theorem u8_toNat_add_mark (kind : Byte) : u8 (kind.toNat + 128) = kind + 128 := by
  rw [u8, BitVec.ofNat_add, BitVec.ofNat_toNat, BitVec.setWidth_eq]
  rfl

/-- Settles O9: the enables are the flags sent, and a kind outside the index is refused on the state as it stands. -/
theorem setNoticesResetCellAndUnknownKind : Obligations.SetNoticesResetCellAndUnknownKind := by
  refine ⟨⟨fun tag a b c d e f g h i s on => ?notices, fun tag s on => live_answers (c := resetCellCmd []) on rfl⟩,
    fun kind tag p s on outside => ?unknown⟩
  case notices => exact live_answers on (setNoticesCmd_flags a b c d e f g h i s)
  case unknown =>
    have event : exec (.unknownKindCommand kind tag p) s = .next (unknownKindEvent kind tag s) := live_on on
    rw [event, ← u8_toNat_add_mark]
    simp only [unknownKindEvent, commandOf_of_no_hostRow outside]
    rfl

/-! ## Raising a condition -/

/-- Settles O10: a notice is made exactly when the condition was not pending and its enable is set. -/
theorem raisingAConditionMakesOneNotice : Obligations.RaisingAConditionMakesOneNotice := by
  intro d s
  refine ⟨fun noNotice => ?detailOnly, fun notPending enabled => ?notice⟩
  case detailOnly =>
    have silent : ((s.conds.get d.cond).detail.isNone && (s.conds.get d.cond).enable) = false := by
      rcases noNotice with pending | disabled
      · rw [Option.isNone_eq_false_iff.2 pending, Bool.false_and]
      · rw [disabled, Bool.and_false]
    simp only [raise, silent, Bool.false_eq_true, if_false]
  case notice =>
    have heard : ((s.conds.get d.cond).detail.isNone && (s.conds.get d.cond).enable) = true := by
      rw [notPending, enabled]
      rfl
    have kept : (fun r : TxRecord => !r.isNotice d.cond) = fun r => match r with
        | .notice k _ _ => decide (k ≠ d.cond)
        | .reply .. | .started .. => true := by
      funext r
      cases r with
      | notice k _ _ => exact decide_not.symm
      | reply => rfl
      | started => rfl
    simp only [raise, heard, if_true, HostLink.makeNotice, kept] <;> rfl

/-! ## Reads -/

theorem readUnitsCmd_of_le {lo hi : Byte} {s : State} (inTable : lo.toNat + 256 * hi.toNat ≤ s.strip.units.length)
    (inRange : lo.toNat + 256 * hi.toNat ≤ 320) :
    readUnitsCmd [lo, hi] s = .answers s (s.strip.results (lo.toNat + 256 * hi.toNat)) := by
  simp only [readUnitsCmd, readWord, nat16, Nat.not_lt.2 inTable, Nat.not_lt.2 inRange, if_false]

theorem mapSummaryCmd_number (i : SlotId) (s : State) : mapSummaryCmd [u8 i.number] s = .answers s (s.summary i) := by
  simp only [mapSummaryCmd, readOne, Quad.ofNumber_toNat_u8_number]

/-- The start column of MAP-READ: 0 when absent (R14). -/
theorem mapReadCmd_inside {i : SlotId} {row p col : Byte} {s : State} (occupied : (s.slots.get i).state ≠ .empty)
    (rowIn : row.toNat < (s.slots.get i).rows)
    (start : p = 0 ∧ 0 < (s.slots.get i).cols ∨ p = 1 ∧ col.toNat < (s.slots.get i).cols) :
    mapReadCmd [u8 i.number, row, p, col] s =
      .answers s ((s.slots.get i).readRow row.toNat (if p = 1 then col.toNat else 0)) := by
  rcases start with ⟨rfl, colIn⟩ | ⟨rfl, colIn⟩ <;>
    simp [mapReadCmd, readMapRead, presence, occupied, rowIn, colIn]

theorem classBytes_eq (e : Option Nat) : optional 1 (e.map fun k => [u8 k]) = match e with
    | none => [0, 0]
    | some k => [1, u8 k] := by
  cases e <;> rfl

theorem readClassesCmd_bankCode (b : Bank) (s : State) : readClassesCmd [u8 (bankCode b)] s =
    .answers s ((s.classes.bank b).flatMap (fun e => match e with
        | none => [0, 0]
        | some k => [1, u8 k]) ++ [u8 (bankCode s.classes.active)] ++ s.classes.groups.map fun g => u8 g.number) := by
  simp only [readClassesCmd, readOne, bankOf_toNat_u8_bankCode, classBytes_eq]

theorem readRecipeCmd_number (t : DieType) (s : State) : readRecipeCmd [u8 t.number] s =
    .answers s (optional 18 ((s.recipes.active.get t).map Recipe.bytes) ++ [u8 (s.recipes.generation.get t).toNat] ++
      optional 18 ((s.recipes.staged.get t).map Recipe.bytes) ++
      [u8 (s.recipes.cycle.one.get t).toNat, u8 (s.recipes.cycle.two.get t).toNat]) := by
  simp only [readRecipeCmd, readOne, Quad.ofNumber_toNat_u8_number]

/-- Settles O12: each read answers on the state as it stands. -/
theorem readsChangeNothing : Obligations.ReadsChangeNothing := by
  intro tag s on
  exact ⟨live_answers (c := statusCmd []) on rfl,
    fun lo hi inTable inRange => live_answers on (readUnitsCmd_of_le inTable inRange),
    live_answers (c := readTokensCmd []) on rfl, fun i => live_answers on (mapSummaryCmd_number i s),
    fun i row p col occupied rowIn start => live_answers on (mapReadCmd_inside occupied rowIn start),
    fun b => live_answers on (readClassesCmd_bankCode b s), fun t => live_answers on (readRecipeCmd_number t s)⟩

/-! ## READ-CONDITION -/

theorem CondId.mem_all (k : CondId) : k ∈ CondId.all := by
  cases k <;> decide

theorem Conds.first_eq_none {c : Conds} {start : Nat}
    (quiet : ∀ k : CondId, start ≤ k.priority → (c.get k).detail = none) : c.first start = none := by
  rw [Conds.first, List.find?_eq_none]
  intro k _
  rw [Bool.and_eq_true, decide_eq_true_iff, not_and]
  intro ranked
  rw [quiet k ranked]
  exact Bool.false_ne_true

/-- The conditions stand in their list in priority order (Table 11-2). -/
theorem CondId.all_sorted : CondId.all.Pairwise fun j k => j.priority < k.priority := by
  decide

/-- The pending condition before which none from the start on is pending is the first. -/
theorem Conds.first_eq_some {c : Conds} {start : Nat} {k : CondId} {d : Detail} (ranked : start ≤ k.priority)
    (pending : (c.get k).detail = some d)
    (earlier : ∀ j : CondId, start ≤ j.priority → j.priority < k.priority → (c.get j).detail = none) :
    c.first start = some k := by
  rw [Conds.first, List.find?_eq_some_iff_append]
  refine ⟨by simp [ranked, pending], ?_⟩
  obtain ⟨before, after, split⟩ := List.append_of_mem (CondId.mem_all k)
  refine ⟨before, after, split, fun j mem => ?_⟩
  have below : j.priority < k.priority := by
    have sorted := CondId.all_sorted
    rw [split, List.pairwise_append] at sorted
    exact sorted.2.2 j mem k List.mem_cons_self
  rw [Bool.not_eq_true', Bool.and_eq_false_imp]
  intro from_
  rw [earlier j (decide_eq_true_iff.1 from_) below]
  rfl

section ReadCondition

variable {start : Byte} {s : State}

theorem readConditionCmd_quiet (low : 1 ≤ start.toNat) (high : start.toNat ≤ 9)
    (none : s.conds.first start.toNat = none) :
    readConditionCmd [start] s = .answers s (0 :: s.conds.pendingFlags) := by
  simp only [readConditionCmd, readOne, low, high, and_self, if_true, none]
  rfl

theorem readConditionCmd_pending (low : 1 ≤ start.toNat) (high : start.toNat ≤ 9) {k : CondId} {d : Detail}
    (first : s.conds.first start.toNat = some k) (pending : (s.conds.get k).detail = some d) :
    readConditionCmd [start] s =
      .answers (conditionRead k s) (u8 k.priority :: d.bytes ++ (conditionRead k s).conds.pendingFlags) := by
  simp only [readConditionCmd, readOne, low, high, and_self, if_true, first, Conds.returned, pending, Option.map_some,
    Option.getD_some]

end ReadCondition

/-- An event condition ceases when it is read (R194). -/
theorem conditionRead_event {k : CondId} (notLog : k ≠ .log) (notStarved : k ≠ .unitStarved) (s : State) :
    conditionRead k s = cease k s := by
  cases k with
  | log => exact absurd rfl notLog
  | unitStarved => exact absurd rfl notStarved
  | _ => rfl

/-- A LOG condition that is read loses its AGED cause; LEVEL, while it holds, is the detail left (R194). -/
theorem conditionRead_log {s : State} {d : Detail} (pending : (s.conds.get .log).detail = some d) :
    conditionRead .log s = { s with
      log := { s.log with aged := false }
      conds := s.conds.set .log { s.conds.get .log with
        detail :=
          if s.log.trigger ≤ s.log.records.length then some (.log true false s.log.records.length) else none } } := by
  have noNotice : (s.conds.get .log).detail.isNone = false := by rw [pending]; rfl
  by_cases level : s.log.trigger ≤ s.log.records.length
  · have holds : ({ s.log with aged := false } : Log).level = true := decide_eq_true level
    simp only [conditionRead, syncLog, holds, Bool.true_or, if_true, raise, Detail.cond, noNotice, Bool.false_and,
      Bool.false_eq_true, if_false, level]
  · have gone : ({ s.log with aged := false } : Log).level = false := decide_eq_false level
    simp only [conditionRead, syncLog, gone, Bool.or_self, Bool.false_eq_true, if_false, cease, level]

/-- Settles O13: the list's first pending condition is found, and its kind says what the read leaves. -/
theorem readConditionReturnsTheFirstPending : Obligations.ReadConditionReturnsTheFirstPending := by
  intro tag start s on low high
  refine ⟨fun quiet => ?quiet, fun k d ranked pending earlier => ?pending⟩
  case quiet => exact live_answers on (readConditionCmd_quiet low high (Conds.first_eq_none quiet))
  case pending =>
    have read := live_answers (kind := 114) (tag := tag) on
      (readConditionCmd_pending low high (Conds.first_eq_some ranked pending earlier) pending)
    refine ⟨fun notLog notStarved => ?event, fun starved => ?starved, fun log => ?log⟩
    case event =>
      rw [conditionRead_event notLog notStarved] at read
      exact read
    case starved =>
      subst starved
      exact read
    case log =>
      subst log
      rw [conditionRead_log pending] at read
      exact read

end Sys2Proof.Machine

/-! The map commands and the staging of recipes (MapRowsDeliversRows, MapOpenCloseAndDrop,
StageRecipeStagesOrWithdraws). -/

namespace Sys2Proof.Machine

/-! ## MAP-ROWS -/

/-- Delivery writes the rows and the list of delivered rows alone (R8). -/
theorem Slot.deliverAll_frame (first : Nat) (entries : List (List Run)) (sl : Slot) :
    sl.deliverAll first entries =
      { sl with delivered := (sl.deliverAll first entries).delivered, sites := (sl.deliverAll first entries).sites } := by
  induction entries generalizing first sl with
  | nil => rfl
  | cons e rest ih => exact ih (first + 1) (sl.deliver first e)

/-- A row sent stands among the delivered rows once, and a row not sent as before (R8). -/
theorem Slot.count_delivered_deliverAll (first k : Nat) (entries : List (List Run)) (sl : Slot) :
    (sl.deliverAll first entries).delivered.count k =
      if first ≤ k ∧ k < first + entries.length then 1 else sl.delivered.count k := by
  induction entries generalizing first sl with
  | nil => rw [if_neg (by rw [List.length_nil]; omega)]; rfl
  | cons e rest ih =>
    rw [Slot.deliverAll, ih, Slot.deliver, count_insertRow, List.length_cons]
    grind

theorem Slot.sites_deliverAll_outside {first k : Nat} {entries : List (List Run)}
    (outside : k < first ∨ first + entries.length ≤ k) (sl : Slot) :
    (sl.deliverAll first entries).sites[k]? = sl.sites[k]? := by
  induction entries generalizing first sl with
  | nil => rfl
  | cons e rest ih =>
    rw [List.length_cons] at outside
    rw [Slot.deliverAll, ih (by omega), Slot.deliver, List.getElem?_set_ne (by omega)]

/-- The row of an entry holds the entry's sites and nothing of what stood there (R8). -/
theorem Slot.sites_deliverAll_inside {first k : Nat} {entries : List (List Run)} {e : List Run} {sl : Slot}
    (sent : entries[k]? = some e) (onGrid : first + k < sl.sites.length) :
    (sl.deliverAll first entries).sites[first + k]? = some (rowSites e) := by
  induction entries generalizing first k sl with
  | nil => cases sent
  | cons e' rest ih =>
    cases k with
    | zero =>
      cases sent
      rw [Nat.add_zero] at onGrid ⊢
      rw [Slot.deliverAll, Slot.sites_deliverAll_outside (.inl (Nat.lt_succ_self first)), Slot.deliver]
      exact List.getElem?_set_self onGrid
    | succ k =>
      have next : first + (k + 1) = first + 1 + k := by omega
      rw [next] at onGrid ⊢
      exact ih sent (by rw [Slot.deliver, List.length_set]; exact onGrid)

/-- A MAP-ROWS that nothing refuses (R7, R8). -/
theorem mapRowsCmd_accepted {p : List Byte} {i : Quad} {a : MapRowsArgs} {s : State} (read : readMapRows p = some a)
    (slot : a.slot = i.number) (loading : (s.slots.get i).state = .loading)
    (rowsFit : a.first + a.entries.length ≤ (s.slots.get i).rows)
    (entriesFit : ∀ e ∈ a.entries, (e.map (·.count)).sum = (s.slots.get i).cols ∧
      ∀ r ∈ e, 1 ≤ r.count ∧ r.count ≤ 255 ∧ r.bin ≤ 63) :
    mapRowsCmd p s = .answers { s with slots := s.slots.set i ((s.slots.get i).deliverAll a.first a.entries) }
      (u8 ((s.slots.get i).deliverAll a.first a.entries).delivered.length ::
        u16 (((s.slots.get i).deliverAll a.first a.entries).count .present)) := by
  have runsInRange : a.entries.all (fun e => e.all fun r => decide (1 ≤ r.count ∧ r.count ≤ 255 ∧ r.bin ≤ 63)) = true := by
    simp only [List.all_eq_true, decide_eq_true_iff]
    exact fun e mem => (entriesFit e mem).2
  have rowsWhole : a.entries.all (fun e => decide ((e.map (·.count)).sum = (s.slots.get i).cols)) = true := by
    simp only [List.all_eq_true, decide_eq_true_iff]
    exact fun e mem => (entriesFit e mem).1
  simp only [mapRowsCmd, read, slot, Quad.ofNumber_number, loading, rowsFit, runsInRange, rowsWhole, ne_eq,
    not_true_eq_false, and_self, if_false]

/-- Settles O14: the slot MAP-ROWS leaves is read row by row. -/
theorem mapRowsDeliversRows : Obligations.MapRowsDeliversRows := by
  intro tag p i a s on read slot loading rowsFit entriesFit
  exact ⟨_, live_answers on (mapRowsCmd_accepted read slot loading rowsFit entriesFit), Slot.deliverAll_frame _ _ _,
    fun k => Slot.count_delivered_deliverAll _ k _ _, fun k outside => Slot.sites_deliverAll_outside outside _,
    fun k e sent onGrid => Slot.sites_deliverAll_inside sent onGrid⟩

/-! ## MAP-OPEN, MAP-DROP and MAP-CLOSE -/

section MapOpen

variable {rows cols : Byte} {id : Text} {p : Bool} {s : State}

/-- A MAP-OPEN that nothing refuses (R6). -/
theorem mapOpenCmd_accepted (i t : Quad) (empty : (s.slots.get i).state = .empty) (rowsLow : 1 ≤ rows.toNat)
    (colsLow : 1 ≤ cols.toNat) (fits : rows.toNat * cols.toNat ≤ 32768) (length : id.length = 12)
    (printable : p = true → isText 12 id = true) :
    mapOpenCmd ([u8 i.number, u8 t.number, rows, cols, flag p] ++ id) s =
      .answers { s with slots := s.slots.set i (.opened t rows.toNat cols.toNat (if p then some id else none)) } [] := by
  have inRange : 1 ≤ rows.toNat ∧ 1 ≤ cols.toNat ∧ rows.toNat * cols.toNat ≤ Config.maxSites := ⟨rowsLow, colsLow, fits⟩
  simp only [mapOpenCmd, List.cons_append, List.nil_append, readMapOpen, length, if_true, Quad.ofNumber_toNat_u8_number,
    empty, ne_eq, not_true_eq_false, if_false, optText_flag printable, inRange, and_self]

end MapOpen

section MapDrop

variable {i : Quad} {s : State}

theorem mapDropCmd_free (droppable : (s.slots.get i).state = .loading ∨ (s.slots.get i).state = .ready)
    (unnamed : ∀ t ∈ s.tokens, t.slot ≠ i) :
    mapDropCmd [u8 i.number] s = .answers { s with slots := s.slots.set i .reset } [] := by
  have taken : ¬((s.slots.get i).state ≠ .loading ∧ (s.slots.get i).state ≠ .ready) :=
    fun ⟨notLoading, notReady⟩ => droppable.elim notLoading notReady
  have free : ¬(s.tokens.any fun t => decide (t.slot = i)) = true := by
    simp only [List.any_eq_true, decide_eq_true_iff, not_exists, not_and]
    exact unnamed
  simp only [mapDropCmd, readOne, Quad.ofNumber_toNat_u8_number, if_neg taken, if_neg free]

theorem mapDropCmd_busy (droppable : (s.slots.get i).state = .loading ∨ (s.slots.get i).state = .ready)
    (named : ∃ t ∈ s.tokens, t.slot = i) : mapDropCmd [u8 i.number] s = .refused .busy [] := by
  have taken : ¬((s.slots.get i).state ≠ .loading ∧ (s.slots.get i).state ≠ .ready) :=
    fun ⟨notLoading, notReady⟩ => droppable.elim notLoading notReady
  have busy : (s.tokens.any fun t => decide (t.slot = i)) = true := by
    simp only [List.any_eq_true, decide_eq_true_iff]
    exact named
  simp only [mapDropCmd, readOne, Quad.ofNumber_toNat_u8_number, if_neg taken, if_pos busy]

end MapDrop

theorem Slot.lowestUndelivered_eq_none {sl : Slot} (all : ∀ r, r < sl.rows → r ∈ sl.delivered) :
    sl.lowestUndelivered = none := by
  rw [Slot.lowestUndelivered, List.find?_eq_none]
  intro r mem
  simpa using all r (List.mem_range.1 mem)

theorem Slot.lowestUndelivered_eq_some {sl : Slot} {r : Nat} (inSlot : r < sl.rows) (missing : r ∉ sl.delivered)
    (below : ∀ q, q < r → q ∈ sl.delivered) : sl.lowestUndelivered = some r := by
  rw [Slot.lowestUndelivered, List.find?_range_eq_some]
  refine ⟨by simpa using missing, List.mem_range.2 inSlot, fun q lt => by simpa using below q lt⟩

section MapClose

variable {i : Quad} {lo hi : Byte} {s : State}

/-- With every row delivered the count decides a MAP-CLOSE (R9). -/
theorem mapCloseCmd_delivered (loading : (s.slots.get i).state = .loading) (inRange : nat16 lo hi ≤ 32768)
    (all : ∀ r, r < (s.slots.get i).rows → r ∈ (s.slots.get i).delivered) :
    mapCloseCmd [u8 i.number, lo, hi] s =
      if nat16 lo hi ≠ (s.slots.get i).count .present then .refused .mismatch (u16 ((s.slots.get i).count .present))
      else .answers { s with slots := s.slots.set i (s.slots.get i).sealed } (u16 ((s.slots.get i).count .present)) := by
  have small : ¬Config.maxSites < nat16 lo hi := Nat.not_lt.2 inRange
  simp only [mapCloseCmd, readMapClose, Quad.ofNumber_toNat_u8_number, if_neg (not_not_intro loading), if_neg small,
    Slot.lowestUndelivered_eq_none all]

/-- A MAP-CLOSE is refused with the lowest undelivered row (R9). -/
theorem mapCloseCmd_undelivered (loading : (s.slots.get i).state = .loading) (inRange : nat16 lo hi ≤ 32768) {r : Nat}
    (lowest : (s.slots.get i).lowestUndelivered = some r) :
    mapCloseCmd [u8 i.number, lo, hi] s = .refused .incomplete [u8 r] := by
  have small : ¬Config.maxSites < nat16 lo hi := Nat.not_lt.2 inRange
  simp only [mapCloseCmd, readMapClose, Quad.ofNumber_toNat_u8_number, if_neg (not_not_intro loading), if_neg small,
    lowest]

end MapClose

/-- Settles O15: the acceptance of each command, and MAP-CLOSE by the lowest undelivered row. -/
theorem mapOpenCloseAndDrop : Obligations.MapOpenCloseAndDrop := by
  refine ⟨⟨fun tag rows cols i t id p s on empty rowsLow colsLow fits length printable => ?openSlot,
    fun tag i s on droppable => ⟨fun unnamed => ?drop, fun named => ?busy⟩⟩,
    fun tag lo hi i s on loading inRange => ⟨fun all => ⟨fun agrees => ?closed, fun differs => ?mismatch⟩,
      fun r inSlot missing below => ?incomplete⟩⟩
  case openSlot => exact live_answers on (mapOpenCmd_accepted i t empty rowsLow colsLow fits length printable)
  case drop => exact live_answers on (mapDropCmd_free droppable unnamed)
  case busy => exact live_refused on (mapDropCmd_busy droppable named)
  case closed =>
    exact live_answers on ((mapCloseCmd_delivered loading inRange all).trans (if_neg (not_not_intro agrees.symm)))
  case mismatch => exact live_refused on ((mapCloseCmd_delivered loading inRange all).trans (if_pos (Ne.symm differs)))
  case incomplete =>
    exact live_refused on
      (mapCloseCmd_undelivered loading inRange (Slot.lowestUndelivered_eq_some inSlot missing below))

/-! ## STAGE-RECIPE -/

/-- What STAGE-RECIPE puts in the staged place: none withdraws, a full recipe in range with its window in order is
staged (R33). -/
def StageRecipeArgs.placed (a : StageRecipeArgs) : Option (Option Recipe) :=
  match flagOf a.recipePresent with
  | none => none
  | some false => some none
  | some true => (a.fields.checked.filter fun r => decide (r.windowLow ≤ r.windowHigh)).map some

theorem stageRecipeCmd_eq {p : List Byte} {a : StageRecipeArgs} {t : Quad} (read : readStageRecipe p = some a)
    (dieType : a.dieType = t.number) (s : State) : stageRecipeCmd p s = a.placed.elim (.refused .badValue []) fun r =>
      .answers { s with recipes := { s.recipes with staged := s.recipes.staged.set t r } }
        [u8 (s.recipes.generation.get t).toNat, flag (s.recipes.staged.get t).isSome] := by
  simp only [stageRecipeCmd, read, dieType, Quad.ofNumber_number, StageRecipeArgs.placed]
  match flagOf a.recipePresent with
  | none => rfl
  | some false => rfl
  | some true =>
    cases a.fields.checked with
    | none => rfl
    | some r =>
      by_cases inOrder : r.windowLow ≤ r.windowHigh
      · simp only [if_neg (Nat.not_lt.2 inOrder), Option.filter_some, inOrder, decide_true, if_true, Option.map_some,
          Option.elim_some]
      · simp only [if_pos (Nat.lt_of_not_le inOrder), Option.filter_some, inOrder, decide_false, Bool.false_eq_true,
          if_false, Option.map_none, Option.elim_none]

/-- Settles O18: the presence byte and the window decide what is staged. -/
theorem stageRecipeStagesOrWithdraws : Obligations.StageRecipeStagesOrWithdraws := by
  intro tag p a t s on read dieType
  have staged := stageRecipeCmd_eq read dieType s
  refine ⟨fun absent => ?withdraw, fun r present checked inOrder => ?stage, fun r present checked outOfOrder => ?refuse⟩
  case withdraw =>
    have placed : a.placed = some none := by rw [StageRecipeArgs.placed, absent]; rfl
    rw [placed] at staged
    exact live_answers on staged
  case stage =>
    have placed : a.placed = some (some r) := by
      rw [StageRecipeArgs.placed, present, checked, Option.filter_some, decide_eq_true inOrder]
      rfl
    rw [placed] at staged
    exact live_answers on staged
  case refuse =>
    have placed : a.placed = none := by
      rw [StageRecipeArgs.placed, present, checked, Option.filter_some, decide_eq_false (Nat.not_le.2 outOfOrder)]
      rfl
    rw [placed] at staged
    exact live_refused on staged

end Sys2Proof.Machine

/-! What raising, ceasing and waiting leave unchanged, and what an order's sending and ending do. -/

namespace Sys2Proof.Machine

/-! ## Frames of the shared operations -/

/-- Raising a condition writes the conditions and the command link alone. -/
theorem raise_frame (d : Detail) (s : State) :
    raise d s = { s with conds := (raise d s).conds, host := (raise d s).host } := by
  unfold raise
  dsimp only
  split <;> rfl

theorem syncStarved_frame (s : State) :
    syncStarved s = { s with conds := (syncStarved s).conds, host := (syncStarved s).host } := by
  unfold syncStarved
  split
  · rfl
  · exact raise_frame _ s
  · exact raise_frame _ s
  · rfl

theorem syncLog_frame (s : State) : syncLog s = { s with conds := (syncLog s).conds, host := (syncLog s).host } := by
  unfold syncLog
  split
  · exact raise_frame _ s
  · rfl

/-- The end of a lane's waiting writes that lane's waiting, the conditions and the command link alone. -/
theorem endWait_frame (n : Lane) (s : State) : endWait n s = { s with
    control := { s.control with waits := (endWait n s).control.waits }
    conds := (endWait n s).conds, host := (endWait n s).host } := by
  unfold endWait
  dsimp only
  split
  · split
    · rw [syncStarved_frame]
      rfl
    · rfl
  · rfl

/-! ## Orders -/

/-- Settles O25: the sending and the ending of an order, field by field. -/
theorem sendingAnOrder : Obligations.SendingAnOrder := by
  intro l k p s
  exact ⟨PerLink.get_set_same _ _ _, rfl, fun m other => (PerLink.get_set _ _ _ _).trans (if_neg other.symm), rfl,
    rfl⟩

end Sys2Proof.Machine

/-! The table manager's commands and reports (MountDismountAndUnload, SlotIdentityAndOffset, WaferOutAndAborted). -/

namespace Sys2Proof.Machine

@[simp] theorem tableOf_toNat_u8_tableCode (k : Table) : tableOf (u8 (tableCode k)).toNat = some k := by
  cases k <;> rfl

theorem Quad.mem_all (i : Quad) : i ∈ [Quad.q0, .q1, .q2, .q3] := by
  cases i <;> decide

theorem Table.mem_all (k : Table) : k ∈ [Table.a, .b] := by
  cases k <;> decide

/-! ## MOUNT, DISMOUNT and the unload -/

section Mount

variable {i : Quad} {k : Table} {s : State}

theorem State.mayMount_of (moving : s.control.cell ≠ .stopping) (ready : (s.slots.get i).state = .ready)
    (empty : (s.tables.get k).state = .empty) (up : (s.links.get (tableLink k)).state = .up)
    (alone : ∀ j, j ≠ i → (s.slots.get j).dieType = (s.slots.get i).dieType →
      (s.slots.get j).state ≠ .mounted ∧ (s.slots.get j).state ≠ .mounting) : s.mayMount i k = true := by
  have noRival : ([Quad.q0, .q1, .q2, .q3].all fun j =>
      !(decide (j ≠ i) && decide ((s.slots.get j).dieType = (s.slots.get i).dieType) &&
        (decide ((s.slots.get j).state = .mounted) || decide ((s.slots.get j).state = .mounting)))) = true := by
    rw [List.all_eq_true]
    intro j _
    simp only [Bool.not_eq_true', Bool.and_eq_false_imp, Bool.and_eq_true, decide_eq_true_iff, Bool.or_eq_false_iff,
      decide_eq_false_iff_not, and_imp]
    exact alone j
  simp only [State.mayMount, noRival, moving, ready, empty, up, ne_eq, not_false_eq_true, decide_true, Bool.and_self]

theorem mountCmd_accepted (may : s.mayMount i k = true) : mountCmd [u8 i.number, u8 (tableCode k)] s =
    .answers (sendOrder (tableLink k) .loadWafer []
      ((s.updSlot i fun sl => { sl with state := .mounting }).updTable k fun r =>
        { r with state := .loading, slot := some i, ending := none, readId := .none })) [] := by
  simp only [mountCmd, readTwo, Quad.ofNumber_toNat_u8_number, tableOf_toNat_u8_tableCode, may, if_true]

theorem dismountCmd_accepted (moving : s.control.cell ≠ .stopping) (occupied : (s.tables.get k).state = .occupied)
    (bound : (s.tables.get k).slot = some i) (mounted : (s.slots.get i).state = .mounted) :
    dismountCmd [u8 (tableCode k)] s =
      .acts ((s.updSlot i fun sl => { sl with state := .unmounting }).updTable k fun r =>
        { r with unloadWanted := true }) [] := by
  simp only [dismountCmd, readOne, tableOf_toNat_u8_tableCode, bound, moving, occupied, mounted, ne_eq,
    not_false_eq_true, and_self, if_true]

end Mount

theorem linkFree_iff {s : State} {l : Link} :
    s.linkFree l = true ↔ (s.links.get l).state = .up ∧ (s.links.get l).outstanding = none := by
  simp only [State.linkFree, Bool.and_eq_true, decide_eq_true_iff, Option.isNone_iff_eq_none]

section Unload

variable {k : Table} {s : State}

/-- The picker's token names a RESERVED site of the slot on the table, so the wafer may not go (R50). -/
def State.pickerHolds (s : State) (k : Table) : Prop :=
  ∃ t, s.tokenAt .picker = some t ∧ (s.tables.get k).slot = some t.slot ∧ s.siteState t = some .reserved

theorem unloadDue_of_due (wanted : (s.tables.get k).unloadWanted = true) (released : ¬s.pickerHolds k)
    (up : (s.links.get (tableLink k)).state = .up) (free : (s.links.get (tableLink k)).outstanding = none) :
    unloadDue k s = sendOrder (tableLink k) .unloadWafer []
      (s.updTable k fun r => { r with state := .unloading, unloadWanted := false, ending := some .dismounted }) := by
  refine if_pos ⟨wanted, ?_, linkFree_iff.2 ⟨up, free⟩⟩
  rw [Option.any_eq_false]
  intro t held
  rw [Bool.and_eq_false_imp, decide_eq_true_iff, decide_eq_false_iff_not]
  exact fun bound reserved => released ⟨t, held, bound, reserved⟩

theorem unloadDue_of_held (holds : s.pickerHolds k) : unloadDue k s = s := by
  obtain ⟨t, held, bound, reserved⟩ := holds
  refine if_neg fun ⟨_, released, _⟩ => ?_
  rw [held, Option.any_some, decide_eq_true bound, decide_eq_true reserved] at released
  exact Bool.noConfusion released

end Unload

/-- Settles O21: the acceptance of the two commands, and the unload by what the picker holds. -/
theorem mountDismountAndUnload : Obligations.MountDismountAndUnload := by
  refine ⟨fun tag i k s on moving ready empty up alone => ?mount,
    fun tag i k s on moving occupied bound mounted => ?dismount,
    fun k s on wanted up free => ⟨fun released => ?unload, fun t held bound reserved => ?held⟩⟩
  case mount => exact live_answers on (mountCmd_accepted (State.mayMount_of moving ready empty up alone))
  case dismount => exact live_acts on (dismountCmd_accepted moving occupied bound mounted)
  case unload =>
    have notHeld : ¬s.pickerHolds k := fun ⟨t, held, bound, reserved⟩ =>
      (released t held).elim (absurd bound) (absurd reserved)
    have event : exec (.unloadWafer k) s = .next (unloadDue k s) := live_on on
    rw [event, unloadDue_of_due wanted notHeld up free]
    rfl
  case held =>
    have event : exec (.unloadWafer k) s = .next (unloadDue k s) := live_on on
    rw [event, unloadDue_of_held ⟨t, held, bound, reserved⟩]

/-! ## SET-WAFER-ID and SET-OFFSET -/

section Identity

variable {i : Quad} {id : Text} {p lock : Bool} {s : State}

/-- The payload of SET-WAFER-ID is read field by field (R53). -/
theorem readSetWaferId_fields (length : id.length = 12) : readSetWaferId (u8 i.number :: flag p :: id ++ [flag lock]) =
    some ⟨(u8 i.number).toNat, flag p, id, flag lock⟩ := by
  have whole : (id ++ [flag lock]).length = 13 := by rw [List.length_append, length]; rfl
  have text : (id ++ [flag lock]).take 12 = id := List.take_left' length
  have last : (id ++ [flag lock]).drop 12 = [flag lock] := List.drop_left' length
  simp only [List.cons_append, readSetWaferId, whole, text, last, if_true, List.headD_cons]

theorem setWaferIdCmd_accepted (length : id.length = 12)
    (settable : (s.slots.get i).state = .loading ∨ (s.slots.get i).state = .ready)
    (printable : p = true → isText 12 id = true) :
    setWaferIdCmd (u8 i.number :: flag p :: id ++ [flag lock]) s =
      .answers (s.updSlot i fun sl => { sl with expectedId := if p then some id else none, idLock := lock }) [] := by
  have taken : ¬((s.slots.get i).state ≠ .loading ∧ (s.slots.get i).state ≠ .ready) :=
    fun ⟨notLoading, notReady⟩ => settable.elim notLoading notReady
  simp only [setWaferIdCmd, readSetWaferId_fields length, Quad.ofNumber_toNat_u8_number, if_neg taken,
    optText_flag printable, flagOf_flag]

theorem setWaferIdCmd_wrong_state (length : id.length = 12) (notLoading : (s.slots.get i).state ≠ .loading)
    (notReady : (s.slots.get i).state ≠ .ready) :
    setWaferIdCmd (u8 i.number :: flag p :: id ++ [flag lock]) s = .refused .wrongState [] := by
  have refused : (s.slots.get i).state ≠ .loading ∧ (s.slots.get i).state ≠ .ready := ⟨notLoading, notReady⟩
  simp only [setWaferIdCmd, readSetWaferId_fields length, Quad.ofNumber_toNat_u8_number, if_pos refused]

theorem setWaferIdCmd_unprintable (length : id.length = 12)
    (settable : (s.slots.get i).state = .loading ∨ (s.slots.get i).state = .ready) (present : p = true)
    (unprintable : isText 12 id = false) :
    setWaferIdCmd (u8 i.number :: flag p :: id ++ [flag lock]) s = .refused .badValue [] := by
  have taken : ¬((s.slots.get i).state ≠ .loading ∧ (s.slots.get i).state ≠ .ready) :=
    fun ⟨notLoading, notReady⟩ => settable.elim notLoading notReady
  have text : optText 12 (flag p) id = none := by rw [present]; exact optText_present_unprintable unprintable
  simp only [setWaferIdCmd, readSetWaferId_fields length, Quad.ofNumber_toNat_u8_number, if_neg taken, text]

end Identity

section Offset

variable {i : Quad} {r c : Byte} {s : State}

theorem setOffsetCmd_empty (empty : (s.slots.get i).state = .empty) :
    setOffsetCmd [u8 i.number, r, c] s = .refused .wrongState [] := by
  simp only [setOffsetCmd, readSetOffset, Quad.ofNumber_toNat_u8_number, if_pos empty]

theorem setOffsetCmd_eq (occupied : (s.slots.get i).state ≠ .empty) : setOffsetCmd [u8 i.number, r, c] s =
    if -15 ≤ r.toInt ∧ r.toInt ≤ 15 ∧ -15 ≤ c.toInt ∧ c.toInt ≤ 15 then
      .answers (s.updSlot i fun sl => { sl with rowOffset := r.toInt, colOffset := c.toInt }) []
    else .refused .badValue [] := by
  simp only [setOffsetCmd, readSetOffset, Quad.ofNumber_toNat_u8_number, if_neg occupied]

end Offset

/-- The token of a successful grant with its site, its unit and its lane, before STEP is sent (R95). -/
def grantedState (n : Lane) (d : Dest) (t : DieType) (u : StripUnit) (i : SlotId) (r c : Nat) (x : Site) (cls : Nat)
    (g : Group) (s : State) : State :=
  let stall := decide (s.log.policy = .stall)
  let unit := (s.updSlot i fun sl =>
    { (sl.updSite r c fun x => { x with state := .reserved, attempts := 0 }).advanceFloor with exhausted := false }).updUnit
      d.unit (·.granted (s.strip.matching u) g d.pos)
  endWait n { unit with
    tokens := s.tokens ++ [{
      slot := i, row := r, col := c, bin := x.bin, cls := cls, group := g, dieType := t
      generation := s.recipes.generation.get t, lane := n, dest := some d, place := .picker, reserved := stall }]
    log := { s.log with reserved := if stall then s.log.reserved + 1 else s.log.reserved }
    picker := { state := .stepping, lastLane := n } }

/-- Creating a token writes the slots, the tokens, the log, the picker, the strip and what the end of waiting writes. -/
theorem grantedState_frame (n : Lane) (d : Dest) (t : DieType) (u : StripUnit) (i : SlotId) (r c : Nat) (x : Site)
    (cls : Nat) (g : Group) (s : State) :
    (grantedState n d t u i r c x cls g s).tables = s.tables ∧ (grantedState n d t u i r c x cls g s).links = s.links ∧
      (grantedState n d t u i r c x cls g s).wire = s.wire := by
  unfold grantedState
  rw [endWait_frame]
  exact ⟨rfl, rfl, rfl⟩

/-- STEP goes out on the link of the table the slot is bound to (R95). -/
theorem createToken_eq {n : Lane} {d : Dest} {t : DieType} {u : StripUnit} {i : SlotId} {r c : Nat} {x : Site} {cls : Nat}
    {g : Group} {s : State} : createToken n d t u i r c x cls g s =
      (s.tableOfSlot i).elim (grantedState n d t u i r c x cls g s) fun k =>
        sendOrder (tableLink k) .step (stepParams ((grantedState n d t u i r c x cls g s).slots.get i) r c)
          (grantedState n d t u i r c x cls g s) := by
  have bound : (grantedState n d t u i r c x cls g s).tableOfSlot i = s.tableOfSlot i := by
    rw [State.tableOfSlot, (grantedState_frame n d t u i r c x cls g s).1]
    rfl
  rw [← bound]
  unfold createToken
  change (match (grantedState n d t u i r c x cls g s).tableOfSlot i with
    | none => grantedState n d t u i r c x cls g s
    | some k => _) = _
  cases (grantedState n d t u i r c x cls g s).tableOfSlot i <;> rfl

/-- The slot a token is created from: the site RESERVED, the floor row advanced, not exhausted, the offsets as before. -/
theorem grantedState_slot (n : Lane) (d : Dest) (t : DieType) (u : StripUnit) (i : SlotId) (r c : Nat) (x : Site)
    (cls : Nat) (g : Group) (s : State) : (grantedState n d t u i r c x cls g s).slots.get i =
      { ((s.slots.get i).updSite r c fun x => { x with state := .reserved, attempts := 0 }).advanceFloor with
        exhausted := false } := by
  unfold grantedState
  rw [endWait_frame]
  exact PerQuad.get_set_same _ _ _

theorem createToken_wire {n : Lane} {d : Dest} {t : DieType} {u : StripUnit} {i : SlotId} {r c : Nat} {x : Site}
    {cls : Nat} {g : Group} {m : Table} {s : State} (bound : s.tableOfSlot i = some m) :
    (createToken n d t u i r c x cls g s).wire = s.wire ++ [.frame (tableLink m) (s.links.get (tableLink m)).nextNumber 4
      (stepParams (s.slots.get i) r c)
      (if (s.links.get (tableLink m)).test = 1 then
        ~~~crc8 ((s.links.get (tableLink m)).nextNumber :: 4 :: stepParams (s.slots.get i) r c)
      else crc8 ((s.links.get (tableLink m)).nextNumber :: 4 :: stepParams (s.slots.get i) r c))] := by
  obtain ⟨-, links, wire⟩ := grantedState_frame n d t u i r c x cls g s
  have offsets : stepParams ((grantedState n d t u i r c x cls g s).slots.get i) r c = stepParams (s.slots.get i) r c := by
    rw [grantedState_slot]
    rfl
  rw [createToken_eq, bound, Option.elim_some, sendOrder, offsets, links, wire]
  rfl

/-- Settles O22: the two commands by the slot's state and their operands, then the STEP of a grant. -/
theorem slotIdentityAndOffset : Obligations.SlotIdentityAndOffset := by
  refine ⟨fun tag i id p lock s on length printable settable => ?identity, fun tag i id p lock s on length =>
      ⟨fun notLoading notReady => ?wrongState, fun settable present unprintable => ?unprintable⟩,
    fun tag r c i s on occupied rowLow rowHigh colLow colHigh => ?offset,
    fun tag r c i s on => ⟨fun empty => ?empty, fun occupied outside => ?outside⟩,
    fun n d t u i r c x k g m s bound => createToken_wire bound⟩
  case identity => exact live_answers on (setWaferIdCmd_accepted length settable printable)
  case wrongState => exact live_refused on (setWaferIdCmd_wrong_state length notLoading notReady)
  case unprintable => exact live_refused on (setWaferIdCmd_unprintable length settable present unprintable)
  case offset =>
    exact live_answers on ((setOffsetCmd_eq occupied).trans (if_pos ⟨rowLow, rowHigh, colLow, colHigh⟩))
  case empty => exact live_refused on (setOffsetCmd_empty empty)
  case outside => exact live_refused on ((setOffsetCmd_eq occupied).trans (if_neg (by omega)))

/-! ## WAFER-OUT and ABORTED on a table link -/

/-- A report that completes the order it answers (R169, R175). -/
theorem live_completing {l : Link} {k : OrderKind} {number : Byte} {fits : OrderKind → Bool} {f : State → State}
    {s : State} (on : s.powered = true) (awaited : s.awaits l k number) (fit : fits k = true) :
    live (takeReport l number fits (completing l f)) s = .next (closeEvent s (f (endOrder l s))) := by
  rw [live_on on, takeReport_of_awaits _ awaited fit, completing]

/-- A byte that may be a flag (R197). -/
theorem flagOf_isSome_of_le {b : Byte} (h : b.toNat ≤ 1) : (flagOf b).isSome = true := by
  have two : b.toNat = 0 ∨ b.toNat = 1 := by omega
  rcases two with zero | one
  · simp only [flagOf, zero, Option.isSome_some]
  · simp only [flagOf, one, Option.isSome_some]

/-- The effect of a WAFER-OUT on the table of a bound slot (R47, R50). -/
theorem waferOutEffect_bound {k : Table} {i : SlotId} {s : State} (bound : (s.tables.get k).slot = some i) :
    waferOutEffect k s = raise (.mountDone k (some i) (outcomeOf (s.tables.get k).ending) (s.tables.get k).readId)
      ((s.updSlot i fun sl => { sl with state := .ready }).updTable k fun r =>
        { r with state := .empty, slot := none, ending := none }) := by
  simp only [waferOutEffect, bound]

theorem endStep_with_token {s : State} {t : Token} (stepping : s.picker.state = .stepping)
    (held : s.tokenAt .picker = some t) : endStep s = setPicker .idle (releaseToken t s) := by
  simp only [endStep, stepping, held, if_true]

theorem endStep_without_token {s : State} (stepping : s.picker.state = .stepping) (empty : s.tokenAt .picker = none) :
    endStep s = setPicker .idle s := by
  simp only [endStep, stepping, empty, if_true]

/-- Settles O24: the report completes its order, and the table's state says what it does. -/
theorem waferOutAndAborted : Obligations.WaferOutAndAborted := by
  refine ⟨fun k n i s on awaited bound => ⟨outcomeOf (s.tables.get k).ending, ?outcome, ?out⟩,
    fun k n holds s on awaited flagged => ?aborted⟩
  case outcome => cases (s.tables.get k).ending with
    | none => rfl
    | some e => cases e <;> rfl
  case out =>
    have event : exec (.waferOut (tableLink k) n) s =
        .next (closeEvent s (waferOutEffect k (endOrder (tableLink k) s))) := by
      refine (live_completing on awaited rfl).trans ?_
      rw [tableOfLink_tableLink]
    rw [event, waferOutEffect_bound (s := endOrder (tableLink k) s) bound]
    rfl
  case aborted =>
    have event : exec (.abortedTable k n holds) s =
        .next (closeEvent s (abortedTableEffect k (endOrder (tableLink k) s))) :=
      live_completing on awaited (by rw [flagOf_isSome_of_le flagged]; rfl)
    have effect (st : TableState) (h : (s.tables.get k).state = st) :
        ((endOrder (tableLink k) s).tables.get k).state = st := h
    rw [event, abortedTableEffect]
    refine ⟨fun loading => ?loading, fun unloading => ?unloading, fun occupied stepping t held => ?token,
      fun occupied stepping empty => ?noToken⟩
    case loading => rw [effect _ loading]; rfl
    case unloading => rw [effect _ unloading]
    case token =>
      rw [effect _ occupied]
      exact congrArg (Host.Outcome.next ∘ closeEvent s) (endStep_with_token (s := endOrder (tableLink k) s) stepping held)
    case noToken =>
      rw [effect _ occupied]
      exact congrArg (Host.Outcome.next ∘ closeEvent s)
        (endStep_without_token (s := endOrder (tableLink k) s) stepping empty)

end Sys2Proof.Machine

/-! The strip's arrival and its orders (ArrivedChecksTheStrip, StripOrders). -/

namespace Sys2Proof.Machine

/-! ## The unit table in serpentine order (R72) -/

/-- Blocks of one length laid end to end are read by the block's number and the place in it. -/
theorem getElem?_flatMap_range {α : Type} {rows : Nat} {block : Nat → List α} (length : ∀ c, (block c).length = rows)
    {cols k : Nat} (h : k < rows * cols) :
    ((List.range cols).flatMap block)[k]? = (block (k / rows))[k % rows]? := by
  induction cols with
  | zero => omega
  | succ cols ih =>
    have whole : ((List.range cols).flatMap block).length = rows * cols := by
      rw [List.length_flatMap]
      simp only [length, List.map_const', List.length_range, List.sum_replicate_nat, Nat.mul_comm]
    rw [List.range_succ, List.flatMap_append, List.getElem?_append, whole, List.flatMap_singleton]
    split
    next earlier => exact ih earlier
    next later =>
      have split : k = rows * cols + (k - rows * cols) := by omega
      have inBlock : k - rows * cols < rows := by rw [Nat.mul_succ] at h; omega
      have number : k / rows = cols := by
        rw [split, Nat.mul_add_div (by omega), Nat.div_eq_of_lt inBlock, Nat.add_zero]
      have place : k % rows = k - rows * cols := by
        rw [split, Nat.mul_add_mod, Nat.mod_eq_of_lt (by omega)]
        omega
      rw [number, place]

/-- A column of the serpentine, upwards or downwards, holds every row. -/
theorem length_column (rows c : Nat) : ((if c % 2 = 0 then List.range rows else (List.range rows).reverse).map
    fun r => (r, c)).length = rows := by
  rw [List.length_map]
  split
  · exact List.length_range
  · rw [List.length_reverse, List.length_range]

theorem length_serpentine (rows cols : Nat) : (serpentine rows cols).length = rows * cols := by
  rw [serpentine, List.length_flatMap]
  have column (c : Nat) : ((if c % 2 = 0 then List.range rows else (List.range rows).reverse).map
      fun r => (r, c)).length = rows := length_column rows c
  simp only [column, List.map_const', List.length_range, List.sum_replicate_nat, Nat.mul_comm]

/-- The place at an index: its column by the rows, its row upwards in an even column and downwards in an odd one. -/
theorem getElem?_serpentine {rows cols k : Nat} (h : k < rows * cols) : (serpentine rows cols)[k]? =
    some (if k / rows % 2 = 0 then k % rows else rows - 1 - k % rows, k / rows) := by
  have inColumn : k % rows < rows := Nat.mod_lt _ (Nat.pos_of_ne_zero fun none => by rw [none, Nat.zero_mul] at h; omega)
  rw [serpentine, getElem?_flatMap_range (rows := rows) (length_column rows) h]
  split
  · rw [List.getElem?_map, List.getElem?_range inColumn, Option.map_some]
  · rw [List.getElem?_map, List.getElem?_reverse (by rw [List.length_range]; exact inColumn), List.length_range,
      List.getElem?_range (by omega), Option.map_some]

theorem StripType.length_units (t : StripType) (skip : Bool) (xouts : List (Nat × Nat)) :
    (t.units skip xouts).length = t.rows * t.cols := by
  rw [StripType.units, List.length_map, List.length_zipIdx, length_serpentine]

theorem StripType.getElem?_units {t : StripType} {k : Nat} (h : k < t.rows * t.cols) (skip : Bool)
    (xouts : List (Nat × Nat)) : (t.units skip xouts)[k]? = some (t.unitAt skip xouts k
      (if k / t.rows % 2 = 0 then k % t.rows else t.rows - 1 - k % t.rows, k / t.rows)) := by
  rw [StripType.units, List.getElem?_map, List.getElem?_zipIdx, getElem?_serpentine h, Option.map_some, Option.map_some,
    Nat.zero_add]

/-! ## The arrival checks (R69 to R71) -/

theorem Quad.ofNumber_of_three_lt {n : Nat} (h : 3 < n) : Quad.ofNumber n = none := by
  match n with
  | n + 4 => rfl

theorem StripType.pitchFits_iff {t : StripType} {measured : Nat} :
    t.pitchFits measured = true ↔ measured ≤ t.pitch + t.tolerance ∧ t.pitch ≤ measured + t.tolerance := by
  simp only [StripType.pitchFits, Bool.and_eq_true, decide_eq_true_iff]

theorem arrivalVerdict_some (t : StripType) (measured : Nat) (r : RecipeStore) : arrivalVerdict (some t) measured r =
    if t.pitchFits measured = true then
      if (t.positions.all fun p => (r.active.get p.dieType).isSome) = true then .accepted else .recipe
    else .pitch := rfl

/-- A place is SKIPPED when the verdict refuses the strip or the x-out list names it (R72, R73). -/
theorem skips_iff {v : Verdict} {entries : List (Byte × Byte)} {row col : Nat} :
    (decide (v ≠ .accepted) || (entries.map fun p => (p.1.toNat, p.2.toNat)).contains (row, col)) = true ↔
      v ≠ .accepted ∨ ∃ x ∈ entries, x.1.toNat = row ∧ x.2.toNat = col := by
  simp only [Bool.or_eq_true, decide_eq_true_iff, List.contains_iff_mem, List.mem_map, Prod.mk.injEq]

/-- The code an arrival goes by: the lock's, else the reported one (R66, R69). -/
def State.arrivalCode (s : State) (reported : Nat) : Nat :=
  match s.stripLock with
  | some c => c.number
  | none => reported

theorem State.arrivalCode_unlocked {s : State} {reported : Nat} (unlocked : s.stripLock = none) :
    s.arrivalCode reported = reported := by
  rw [State.arrivalCode, unlocked]

theorem State.arrivalCode_locked {s : State} {reported : Nat} {c : TypeCode} (locked : s.stripLock = some c) :
    s.arrivalCode reported = c.number := by
  rw [State.arrivalCode, locked]

/-- The unit table of an arrival: empty without a layout (R72, R73). -/
def arrivalUnits (layout : Option StripType) (v : Verdict) (xouts : List (Nat × Nat)) : List StripUnit :=
  match layout with
  | none => []
  | some t => t.units (decide (v ≠ .accepted)) xouts

theorem arrivalUnits_some (t : StripType) (v : Verdict) (xouts : List (Nat × Nat)) :
    arrivalUnits (some t) v xouts = t.units (decide (v ≠ .accepted)) xouts := rfl

theorem arrivedEffect_eq (id : Text) (reported measured : Nat) (xouts : List (Nat × Nat)) (s : State) :
    arrivedEffect id reported measured xouts s =
      (let layout := s.layoutFor (s.arrivalCode reported)
       let v := arrivalVerdict layout measured (promote s).recipes
       { promote s with strip := ⟨.active, false, some id, some (s.arrivalCode reported), layout, some measured, some v,
          arrivalUnits layout v xouts⟩ }) := rfl

/-- Settles O27: the effect of the arrival is read part by part, then the verdict's table. -/
theorem arrivedChecksTheStrip : Obligations.ArrivedChecksTheStrip := by
  refine ⟨fun n id code pitch count xouts s on awaited printable few => ?arrived, fun t measured r => ?verdict⟩
  case arrived =>
    have event := live_completing (number := n) (f := arrivedEffect id code.toNat pitch.toNat
      ((xouts.take count.toNat).map fun p => (p.1.toNat, p.2.toNat)))
      (fits := fun k => decide (k = .loadStrip) && isText 12 id && decide (count.toNat ≤ 12)) on awaited
      (by rw [printable, decide_eq_true few]; rfl)
    rw [arrivedEffect_eq] at event
    refine ⟨_, _, _, _, event, fun noLock => ?byReport, fun q lock => ?byLock, fun q named => ?layout,
      fun outside => ?noLayout, rfl, fun noLayout => ?noUnits, fun t chosen => ?units⟩
    case byReport => exact State.arrivalCode_unlocked noLock
    case byLock => exact State.arrivalCode_locked lock
    case layout =>
      rw [State.layoutFor, named, Quad.ofNumber_number, Option.bind_some]
      rfl
    case noLayout => rw [State.layoutFor, Quad.ofNumber_of_three_lt outside, Option.bind_none]
    case noUnits => exact congrArg (fun l => arrivalUnits l _ _) noLayout
    case units =>
      rw [chosen, arrivalUnits_some]
      refine ⟨StripType.length_units _ _ _, fun k inTable => ?_⟩
      rw [StripType.getElem?_units inTable, StripType.unitAt]
      simp only [skips_iff]
  case verdict =>
    refine ⟨rfl, fun outside => ?pitch, fun high low => ⟨fun missing => ?recipe, fun all => ?accepted⟩⟩
    case pitch =>
      rw [arrivalVerdict_some, if_neg]
      rw [StripType.pitchFits_iff]
      omega
    case recipe =>
      rw [arrivalVerdict_some, if_pos (StripType.pitchFits_iff.2 ⟨high, low⟩), if_neg]
      obtain ⟨p, mem, none⟩ := missing
      rw [List.all_eq_true]
      intro all
      have some := all p mem
      rw [none] at some
      exact Bool.noConfusion some
    case accepted =>
      rw [arrivalVerdict_some, if_pos (StripType.pitchFits_iff.2 ⟨high, low⟩), if_pos]
      rw [List.all_eq_true]
      exact fun p mem => Option.isSome_iff_ne_none.2 (all p mem)

/-! ## The strip orders (R68, R82 to R84) -/

section StripSteps

variable {s : State}

theorem loadStripDue_of_due (noStrip : s.strip.state = .none) (running : s.control.cell = .running)
    (free : s.linkFree .ix = true) : loadStripDue s =
      sendOrder .ix .loadStrip [] { s with strip := { s.strip with state := .loading } } :=
  if_pos ⟨noStrip, running, free⟩

theorem loadStripDue_of_not_running (resting : s.control.cell ≠ .running) : loadStripDue s = s :=
  if_neg fun ⟨_, running, _⟩ => resting running

theorem ejectStripDue_of_due (active : s.strip.state = .active) (done : s.strip.done = true)
    (running : s.control.cell = .running) (free : s.linkFree .ix = true) : ejectStripDue s =
      sendOrder .ix .ejectStrip [] { s with strip := { s.strip with state := .ejecting } } :=
  if_pos ⟨active, done, running, free⟩

theorem ejectStripDue_of_not_free (notFree : ¬(s.control.cell = .running ∧ s.linkFree .ix = true)) :
    ejectStripDue s = s :=
  if_neg fun ⟨_, _, running, free⟩ => notFree ⟨running, free⟩

/-- STRIP-DONE with its detail, of the strip as it stands (R82). -/
def raiseStripDone (s : State) : State :=
  raise (.stripDone s.strip.stripId s.strip.verdict (s.strip.countUnits .complete) (s.strip.countUnits .flawed)
    (s.strip.countUnits .skipped) (s.strip.countUnits .voided)) { s with strip := { s.strip with done := true } }

/-- The strip is ACTIVE and not yet done, every unit is resolved and no token exists (R82). -/
def State.stripFinished (s : State) : Prop :=
  s.strip.state = .active ∧ s.strip.done = false ∧ (∀ u ∈ s.strip.units, u.resolved = true) ∧ s.tokens = []

theorem stripDoneDue_of_finished (finished : s.stripFinished) : stripDoneDue s = ejectStripDue (raiseStripDone s) := by
  obtain ⟨active, notDone, resolved, noToken⟩ := finished
  exact if_pos ⟨active, notDone, List.all_eq_true.2 resolved, noToken⟩

theorem stripDoneDue_of_not_finished (unfinished : ¬s.stripFinished) : stripDoneDue s = s :=
  if_neg fun ⟨active, notDone, resolved, noToken⟩ =>
    unfinished ⟨active, notDone, List.all_eq_true.1 resolved, noToken⟩

/-- STRIP-DONE writes the strip's done flag, the conditions and the command link alone. -/
theorem raiseStripDone_frame (s : State) : raiseStripDone s = { s with
    strip := { s.strip with done := true }
    conds := (raiseStripDone s).conds, host := (raiseStripDone s).host } :=
  raise_frame _ _

/-- A strip that becomes done while it may not be ejected stays ACTIVE (R82, R83). -/
theorem ejectStripDue_raiseStripDone_of_not_free (notFree : ¬(s.control.cell = .running ∧ s.linkFree .ix = true)) :
    ejectStripDue (raiseStripDone s) = raiseStripDone s := by
  refine ejectStripDue_of_not_free ?_
  rw [raiseStripDone_frame]
  exact notFree

/-- A strip that becomes done in a RUNNING cell with IX free is ejected at once (R82, R83). -/
theorem ejectStripDue_raiseStripDone_of_free (active : s.strip.state = .active) (running : s.control.cell = .running)
    (free : s.linkFree .ix = true) : ejectStripDue (raiseStripDone s) =
      sendOrder .ix .ejectStrip [] { raiseStripDone s with strip := { s.strip with done := true, state := .ejecting } } := by
  have frame := raiseStripDone_frame s
  have strip : (raiseStripDone s).strip = { s.strip with done := true } := by rw [frame]
  have cell : (raiseStripDone s).control.cell = .running := by rw [frame]; exact running
  have ix : (raiseStripDone s).linkFree .ix = true := by rw [frame]; exact free
  rw [ejectStripDue_of_due (by rw [strip]; exact active) (by rw [strip]) cell ix, strip]

theorem stripOrderLost_loading (loading : s.strip.state = .loading) :
    stripOrderLost s = { s with strip := { s.strip with state := .none } } := by
  simp only [stripOrderLost, loading]

theorem stripOrderLost_ejecting (ejecting : s.strip.state = .ejecting) :
    stripOrderLost s = { s with strip := { s.strip with state := .active, done := true } } := by
  simp only [stripOrderLost, ejecting]

end StripSteps

/-- Settles O28: the steps by their conditions, the reports by the strip's state. -/
theorem stripOrders : Obligations.StripOrders := by
  refine ⟨fun s on => ?steps, fun n s on => ⟨fun awaited => live_completing on awaited rfl, fun holds awaited => ?aborted⟩⟩
  case steps =>
    have load : exec .loadStrip s = .next (loadStripDue s) := live_on on
    have eject : exec .ejectStrip s = .next (ejectStripDue s) := live_on on
    have done : exec .stripDone s = .next (stripDoneDue s) := live_on on
    rw [load, eject, done]
    refine ⟨fun noStrip running up free => ?load, fun active finished running up free => ?eject,
      fun active notDone noToken resolved resting => ?done, fun resting => ⟨?noLoad, ?noEject⟩, fun tokens => ?notDone⟩
    case load => rw [loadStripDue_of_due noStrip running (linkFree_iff.2 ⟨up, free⟩)]
    case eject => rw [ejectStripDue_of_due active finished running (linkFree_iff.2 ⟨up, free⟩)]
    case done =>
      rw [stripDoneDue_of_finished ⟨active, notDone, resolved, noToken⟩,
        ejectStripDue_raiseStripDone_of_not_free fun ⟨running, _⟩ => resting running]
      rfl
    case noLoad => rw [loadStripDue_of_not_running resting]
    case noEject => rw [ejectStripDue_of_not_free fun ⟨running, _⟩ => resting running]
    case notDone => rw [stripDoneDue_of_not_finished fun ⟨_, _, _, noToken⟩ => tokens noToken]
  case aborted =>
    have event : exec (.abortedIx n holds) s = .next (closeEvent s (stripOrderLost (endOrder .ix s))) :=
      live_completing on awaited rfl
    rw [event]
    refine ⟨fun loading => ?_, fun ejecting => ?_⟩
    · rw [stripOrderLost_loading (s := endOrder .ix s) loading]
      rfl
    · rw [stripOrderLost_ejecting (s := endOrder .ix s) ejecting]
      rfl

end Sys2Proof.Machine

/-! The site search (R57 to R59): the slot searched, the walk's order, what makes a site eligible
(SearchFindsAnEligibleSite). -/

namespace Sys2Proof.Machine

/-! ## The slot searched -/

/-- The slot is mounted for the die type on a table that is not FAULTED (R57). -/
def State.mayBeSearched (s : State) (t : DieType) (i : SlotId) : Prop :=
  (s.slots.get i).state = .mounted ∧ (s.slots.get i).dieType = t ∧
    ∃ m, (s.tables.get m).slot = some i ∧ (s.tables.get m).faulted = false

/-- The test that the search's choice of a slot makes. -/
def State.searchTest (s : State) (t : DieType) (i : SlotId) : Bool :=
  decide ((s.slots.get i).state = .mounted) && decide ((s.slots.get i).dieType = t) &&
    [Table.a, .b].any fun k => decide ((s.tables.get k).slot = some i) && !(s.tables.get k).faulted

theorem State.searchTest_iff {s : State} {t : DieType} {i : SlotId} : s.searchTest t i = true ↔ s.mayBeSearched t i := by
  simp only [State.searchTest, State.mayBeSearched, Bool.and_eq_true, decide_eq_true_iff, List.any_eq_true, Table.mem_all,
    true_and, Bool.not_eq_true', and_assoc]

theorem State.mayBeSearched_of_searchedSlot {s : State} {t : DieType} {i : SlotId} (h : s.searchedSlot t = some i) :
    s.mayBeSearched t i :=
  State.searchTest_iff.1 (List.find?_some (p := s.searchTest t) h)

theorem State.searchedSlot_eq_none_iff {s : State} {t : DieType} :
    s.searchedSlot t = none ↔ ∀ i, ¬s.mayBeSearched t i := by
  change [Quad.q0, .q1, .q2, .q3].find? (s.searchTest t) = none ↔ _
  simp only [List.find?_eq_none, Quad.mem_all, true_implies, State.searchTest_iff]

/-! ## The walk -/

/-- A place comes before another in serpentine order (R58). -/
def serpentineBefore (r' c' r c : Nat) : Prop := r' < r ∨ r' = r ∧ if r % 2 = 0 then c' < c else c < c'

def WalkSite.before (v w : WalkSite) : Prop := serpentineBefore v.row v.col w.row w.col

theorem WalkSite.not_before_of_before {v w : WalkSite} (h : v.before w) : ¬w.before v := by
  unfold WalkSite.before serpentineBefore at *
  grind

theorem WalkSite.not_before_self (w : WalkSite) : ¬w.before w := by
  unfold WalkSite.before serpentineBefore
  grind

/-- A list's elements with their places stand in the order of the places. -/
theorem pairwise_zipIdx {α : Type} (l : List α) : l.zipIdx.Pairwise fun a b => a.2 < b.2 := by
  have places : (l.zipIdx.map Prod.snd).Pairwise (· < ·) := by
    rw [List.zipIdx_map_snd]
    exact List.pairwise_lt_range'
  exact List.pairwise_map.1 places

theorem mem_zipIdx_drop {α : Type} {l : List α} {n k : Nat} {x : α} :
    (x, k) ∈ l.zipIdx.drop n ↔ n ≤ k ∧ l[k]? = some x := by
  simp only [List.mem_iff_getElem?, List.getElem?_drop, List.getElem?_zipIdx, Option.map_eq_some_iff, Prod.mk.injEq,
    Nat.zero_add]
  constructor
  · rintro ⟨i, y, here, rfl, rfl⟩
    exact ⟨Nat.le_add_right n i, here⟩
  · rintro ⟨le, here⟩
    have place : n + (k - n) = k := by omega
    exact ⟨k - n, x, by rw [place]; exact here, rfl, place⟩

theorem mem_serpentineRow {r : Nat} {row : List Site} {w : WalkSite} :
    w ∈ serpentineRow r row ↔ w.row = r ∧ row[w.col]? = some w.site := by
  have inRow : (w ∈ row.zipIdx.map fun p => (⟨r, p.2, p.1⟩ : WalkSite)) ↔ w.row = r ∧ row[w.col]? = some w.site := by
    obtain ⟨wr, wc, ws⟩ := w
    simp only [List.mem_map, WalkSite.mk.injEq, Prod.exists, List.mem_zipIdx_iff_getElem?]
    constructor
    · rintro ⟨x, c, here, rfl, rfl, rfl⟩
      exact ⟨rfl, here⟩
    · rintro ⟨rfl, here⟩
      exact ⟨ws, wc, here, rfl, rfl, rfl⟩
  unfold serpentineRow
  dsimp only
  split
  · exact inRow
  · rw [List.mem_reverse, inRow]

theorem pairwise_serpentineRow (r : Nat) (row : List Site) : (serpentineRow r row).Pairwise WalkSite.before := by
  unfold serpentineRow
  dsimp only
  split
  next even =>
    rw [List.pairwise_map]
    exact (pairwise_zipIdx row).imp fun lt => .inr ⟨rfl, (if_pos even).symm ▸ lt⟩
  next odd =>
    rw [List.pairwise_reverse, List.pairwise_map]
    exact (pairwise_zipIdx row).imp fun lt => .inr ⟨rfl, (if_neg odd).symm ▸ lt⟩

/-- The walk meets the sites from the floor row on, and no other. -/
theorem Slot.mem_walk {sl : Slot} {w : WalkSite} :
    w ∈ sl.walk ↔ sl.floorRow ≤ w.row ∧ sl.site w.row w.col = some w.site := by
  simp only [Slot.walk, List.mem_flatMap, Prod.exists, mem_zipIdx_drop, mem_serpentineRow, Slot.site,
    Option.bind_eq_some_iff]
  constructor
  · rintro ⟨row, r, ⟨le, here⟩, rfl, site⟩
    exact ⟨le, row, here, site⟩
  · rintro ⟨le, row, here, site⟩
    exact ⟨row, w.row, ⟨le, here⟩, rfl, site⟩

/-- The walk meets them in serpentine order. -/
theorem Slot.pairwise_walk (sl : Slot) : sl.walk.Pairwise WalkSite.before := by
  rw [Slot.walk, List.pairwise_flatMap]
  refine ⟨fun p _ => pairwise_serpentineRow p.2 p.1, ((pairwise_zipIdx sl.sites).sublist (List.drop_sublist _ _)).imp ?_⟩
  intro p q lt v hv w hw
  obtain ⟨rowV, -⟩ := mem_serpentineRow.1 hv
  obtain ⟨rowW, -⟩ := mem_serpentineRow.1 hw
  exact .inl (rowV ▸ rowW ▸ lt)

/-- What a search finds comes before everything else it could have found. -/
theorem not_before_of_find? {l : List WalkSite} {p : WalkSite → Bool} {v w : WalkSite}
    (sorted : l.Pairwise WalkSite.before) (found : l.find? p = some w) (mem : v ∈ l) (passes : p v = true) :
    ¬v.before w := by
  obtain ⟨-, before, after, rfl, none⟩ := List.find?_eq_some_iff_append.1 found
  rw [List.pairwise_append, List.pairwise_cons] at sorted
  obtain ⟨-, ⟨later, -⟩, -⟩ := sorted
  rcases List.mem_append.1 mem with earlier | here
  · exact absurd passes (by simpa using none v earlier)
  · rcases List.mem_cons.1 here with rfl | behind
    · exact WalkSite.not_before_self v
    · exact WalkSite.not_before_of_before (later v behind)

/-! ## Eligible sites -/

/-- A site that a recipe of the die type takes (R58). -/
def State.baseSite (s : State) (t : DieType) (x : Site) : Prop :=
  x.state = .present ∧ ∃ k p, s.classes.classOf x.bin = some k ∧ s.recipes.active.get t = some p ∧
    p.acceptance.getLsbD k = true ∧ p.filter.allows x.marks = true

theorem baseEligible_iff {c : ClassTables} {r : Recipe} {x : Site} : baseEligible c r x = true ↔
    x.state = .present ∧ ∃ k, c.classOf x.bin = some k ∧ r.acceptance.getLsbD k = true ∧ r.filter.allows x.marks = true := by
  unfold baseEligible
  cases c.classOf x.bin <;> simp [and_assoc]

theorem groupPasses_iff {c : ClassTables} {wanted : Option Group} {x : Site} : groupPasses c wanted x = true ↔
    ∀ w, wanted = some w → ∃ k, c.classOf x.bin = some k ∧ c.groupOf k = some w := by
  unfold groupPasses
  cases wanted with
  | none => simp
  | some g => simp [Option.bind_eq_some_iff]

/-- The base-eligible sites of a slot's walk, in its order (R58). -/
def State.eligibleWalk (s : State) (t : DieType) (i : SlotId) : List WalkSite :=
  match s.recipes.active.get t with
  | none => []
  | some r => (s.slots.get i).walk.filter fun w => baseEligible s.classes r w.site

theorem State.mem_eligibleWalk {s : State} {t : DieType} {i : SlotId} {w : WalkSite} :
    w ∈ s.eligibleWalk t i ↔ w ∈ (s.slots.get i).walk ∧ s.baseSite t w.site := by
  unfold State.eligibleWalk State.baseSite
  cases s.recipes.active.get t with
  | none => simp
  | some r => simp [baseEligible_iff]

theorem State.pairwise_eligibleWalk (s : State) (t : DieType) (i : SlotId) :
    (s.eligibleWalk t i).Pairwise WalkSite.before := by
  unfold State.eligibleWalk
  split
  · exact List.Pairwise.nil
  · exact (Slot.pairwise_walk _).filter _

/-! ## The ends of a search -/

section Search

variable {t : DieType} {wanted : Option Group} {s : State}

theorem search_unmounted (noSlot : s.searchedSlot t = none) : search t wanted s = .unmounted := by
  simp only [search, noSlot]

variable {i : SlotId}

/-- The search's end by the first site of its walk that passes the group test, if any (R59). -/
def State.endOfSearch (s : State) (t : DieType) (i : SlotId) : Option WalkSite → SearchResult
  | some w => .found i w.row w.col w.site ((s.classes.classOf w.site.bin).getD 0)
      (((s.classes.classOf w.site.bin).bind s.classes.groupOf).getD .q0)
  | none => if (s.eligibleWalk t i).isEmpty then .noDie i else .groupOnly

theorem search_of_searchedSlot (slot : s.searchedSlot t = some i) : search t wanted s =
    s.endOfSearch t i ((s.eligibleWalk t i).find? fun w => groupPasses s.classes wanted w.site) := by
  simp only [search, slot]
  rfl

/-- The four ends of a search (R59). -/
theorem search_cases (t : DieType) (wanted : Option Group) (s : State) :
    (s.searchedSlot t = none ∧ search t wanted s = .unmounted) ∨ ∃ i, s.searchedSlot t = some i ∧
      ((∃ w, ((s.eligibleWalk t i).find? fun w => groupPasses s.classes wanted w.site) = some w ∧
          search t wanted s = .found i w.row w.col w.site ((s.classes.classOf w.site.bin).getD 0)
            (((s.classes.classOf w.site.bin).bind s.classes.groupOf).getD .q0)) ∨
        (s.eligibleWalk t i = [] ∧ search t wanted s = .noDie i) ∨
        (s.eligibleWalk t i ≠ [] ∧ (∀ w ∈ s.eligibleWalk t i, ¬groupPasses s.classes wanted w.site = true) ∧
          search t wanted s = .groupOnly)) := by
  cases slot : s.searchedSlot t with
  | none => exact .inl ⟨rfl, search_unmounted slot⟩
  | some i =>
    refine .inr ⟨i, rfl, ?_⟩
    have ended := search_of_searchedSlot (wanted := wanted) slot
    cases first : (s.eligibleWalk t i).find? fun w => groupPasses s.classes wanted w.site with
    | some w => exact .inl ⟨w, rfl, by rw [ended, first]; rfl⟩
    | none =>
      rw [first] at ended
      by_cases empty : s.eligibleWalk t i = []
      · exact .inr (.inl ⟨empty, ended.trans (if_pos (List.isEmpty_iff.2 empty))⟩)
      · exact .inr (.inr ⟨empty, List.find?_eq_none.1 first, ended.trans (if_neg ((not_congr List.isEmpty_iff).2 empty))⟩)

end Search

/-- What a site found satisfies (R58). -/
theorem found_site {t : DieType} {wanted : Option Group} {s : State} {i : SlotId} {w : WalkSite}
    (first : ((s.eligibleWalk t i).find? fun w => groupPasses s.classes wanted w.site) = some w) :
    w ∈ (s.slots.get i).walk ∧ s.baseSite t w.site ∧
      (∀ g, wanted = some g → ∃ k, s.classes.classOf w.site.bin = some k ∧ s.classes.groupOf k = some g) ∧
      ∀ v ∈ (s.slots.get i).walk, v.before w → ¬(s.baseSite t v.site ∧ groupPasses s.classes wanted v.site = true) := by
  obtain ⟨walked, base⟩ := State.mem_eligibleWalk.1 (List.mem_of_find?_eq_some first)
  have passesW : groupPasses s.classes wanted w.site = true :=
    List.find?_some (p := fun w : WalkSite => groupPasses s.classes wanted w.site) first
  refine ⟨walked, base, groupPasses_iff.1 passesW, ?_⟩
  rintro v onWalk earlier ⟨baseV, passes⟩
  exact not_before_of_find? (s.pairwise_eligibleWalk t i) first (State.mem_eligibleWalk.2 ⟨onWalk, baseV⟩) passes earlier

theorem site_of_search_found {t : DieType} {wanted : Option Group} {s : State} {i : SlotId} {r c : Nat} {x : Site}
    {k : Nat} {g : Group} (found : search t wanted s = .found i r c x k g) : (s.slots.get i).site r c = some x := by
  rcases search_cases t wanted s with ⟨-, ended⟩ | ⟨j, -, ⟨w, first, ended⟩ | ⟨-, ended⟩ | ⟨-, -, ended⟩⟩
  case inr.inl =>
    cases found.symm.trans ended
    exact (Slot.mem_walk.1 (found_site first).1).2
  all_goals exact absurd (found.symm.trans ended) nofun

/-- Settles O29: the four ends of the search, each read on the walk. -/
theorem searchFindsAnEligibleSite : Obligations.SearchFindsAnEligibleSite := by
  intro t wanted s
  rcases search_cases t wanted s with ⟨noSlot, unmounted⟩ | ⟨i, slot, ended⟩
  case inl =>
    rw [unmounted]
    exact ⟨nofun, iff_of_true rfl (State.searchedSlot_eq_none_iff.1 noSlot), nofun, nofun⟩
  have searched := State.mayBeSearched_of_searchedSlot slot
  have mounted : ¬∀ j, ¬s.mayBeSearched t j := fun noSlot => noSlot i searched
  rcases ended with ⟨w, first, found⟩ | ⟨empty, noDie⟩ | ⟨some, none, groupOnly⟩
  case inl =>
    rw [found]
    refine ⟨?_, iff_of_false nofun mounted, nofun, nofun⟩
    rintro _ _ _ _ _ _ ⟨⟩
    obtain ⟨walked, ⟨present, k, p, cls, active, accepted, allowed⟩, inGroup, earliest⟩ := found_site first
    obtain ⟨floor, site⟩ := Slot.mem_walk.1 walked
    have ⟨isMounted, dieType, _⟩ := searched
    rw [cls]
    refine ⟨isMounted, dieType, site, floor, present, rfl, ⟨p, active, accepted, allowed⟩, fun g wants => ?_,
      fun h group => ?_, searched, fun r c y onWalk before eligible => ?_⟩
    · obtain ⟨k', cls', group⟩ := inGroup g wants
      cases cls.symm.trans cls'
      exact group
    · have group' : s.classes.groupOf k = Option.some h := group
      rw [Option.bind_some, group', Option.getD_some]
    · exact earliest ⟨r, c, y⟩ (Slot.mem_walk.2 onWalk) before ⟨eligible.1, groupPasses_iff.2 eligible.2⟩
  case inr.inl =>
    rw [noDie]
    refine ⟨nofun, iff_of_false nofun mounted, ?_, nofun⟩
    rintro _ ⟨⟩
    refine ⟨searched, fun r c x onWalk base => ?_⟩
    have mem := (State.mem_eligibleWalk (w := ⟨r, c, x⟩)).2 ⟨Slot.mem_walk.2 onWalk, base⟩
    rw [empty] at mem
    exact List.not_mem_nil mem
  case inr.inr =>
    rw [groupOnly]
    refine ⟨nofun, iff_of_false nofun mounted, nofun, fun _ => ⟨i, searched, ?_, fun r c x onWalk base inGroup => ?_⟩⟩
    · obtain ⟨w, mem⟩ := List.exists_mem_of_ne_nil _ some
      obtain ⟨walked, base⟩ := State.mem_eligibleWalk.1 mem
      exact ⟨w.row, w.col, w.site, Slot.mem_walk.1 walked, base⟩
    · exact none ⟨r, c, x⟩ ((State.mem_eligibleWalk (w := ⟨r, c, x⟩)).2 ⟨Slot.mem_walk.2 onWalk, base⟩)
        (groupPasses_iff.2 inGroup)

end Sys2Proof.Machine

/-! The arbiter and the grant (GrantCreatesAToken): which lane is chosen, how its grant ends, what a token's creation
leaves, and what a lane's next position is. -/

namespace Sys2Proof.Machine

/-! ## Rows passed by the floor (R20) -/

theorem holds_of_lt_takeWhile {α : Type} {p : α → Bool} {l : List α} {j : Nat} {x : α}
    (passed : j < (l.takeWhile p).length) (here : l[j]? = some x) : p x = true := by
  rw [← List.takeWhile_append_dropWhile (p := p) (l := l), List.getElem?_append_left passed] at here
  exact List.all_eq_true.1 List.all_takeWhile x (List.mem_of_getElem? here)

theorem fails_at_takeWhile {α : Type} {p : α → Bool} {l : List α} {x : α}
    (here : l[(l.takeWhile p).length]? = some x) : p x = false := by
  induction l with
  | nil => cases here
  | cons y l ih =>
    by_cases holds : p y = true
    · rw [List.takeWhile_cons_of_pos holds, List.length_cons, List.getElem?_cons_succ] at here
      exact ih here
    · rw [List.takeWhile_cons_of_neg holds] at here
      cases here
      exact Bool.eq_false_iff.2 holds

section Floor

variable {sl : Slot}

theorem Slot.site_advanceFloor (r c : Nat) : sl.advanceFloor.site r c = sl.site r c := rfl

theorem Slot.floorRow_le_advanceFloor : sl.floorRow ≤ sl.advanceFloor.floorRow := Nat.le_add_right _ _

/-- The rows the floor passes hold no PRESENT site (R20). -/
theorem Slot.not_present_of_passed {q col : Nat} {y : Site} (low : sl.floorRow ≤ q) (high : q < sl.advanceFloor.floorRow)
    (site : sl.site q col = some y) : y.state ≠ .present := by
  obtain ⟨row, rowHere, siteHere⟩ := Option.bind_eq_some_iff.1 site
  have passed : (row.all fun x => decide (x.state ≠ .present)) = true := by
    refine holds_of_lt_takeWhile (p := fun row => row.all fun x => decide (x.state ≠ .present))
      (l := sl.sites.drop sl.floorRow) (j := q - sl.floorRow) ?_ ?_
    · have floor : sl.advanceFloor.floorRow = sl.floorRow + _ := rfl
      rw [floor] at high
      exact Nat.sub_lt_left_of_lt_add low high
    · rw [List.getElem?_drop, Nat.add_sub_cancel' low]
      exact rowHere
  exact of_decide_eq_true (List.all_eq_true.1 passed y (List.mem_of_getElem? siteHere))

/-- The row the floor stops at, if there is one, holds a PRESENT site (R20). -/
theorem Slot.present_at_floor (inSlot : sl.advanceFloor.floorRow < sl.sites.length) :
    ∃ col y, sl.site sl.advanceFloor.floorRow col = some y ∧ y.state = .present := by
  have rowHere : sl.sites[sl.advanceFloor.floorRow]? = some sl.sites[sl.advanceFloor.floorRow] :=
    List.getElem?_eq_getElem inSlot
  have stopped : ((sl.sites[sl.advanceFloor.floorRow]).all fun x => decide (x.state ≠ .present)) = false :=
    fails_at_takeWhile (l := sl.sites.drop sl.floorRow) (by rw [List.getElem?_drop]; exact rowHere)
  obtain ⟨y, mem, present⟩ := List.all_eq_false.1 stopped
  obtain ⟨col, siteHere⟩ := List.mem_iff_getElem?.1 mem
  refine ⟨col, y, ?_, by simpa using present⟩
  rw [Slot.site, rowHere, Option.bind_some, siteHere]

end Floor

/-- A site rewritten is rewritten, and every other stands (R17). -/
theorem Slot.site_updSite (r c q k : Nat) (f : Site → Site) (sl : Slot) :
    (sl.updSite r c f).site q k = if q = r ∧ k = c then (sl.site q k).map f else sl.site q k := by
  rw [Slot.site, Slot.updSite, List.getElem?_modify, Slot.site]
  cases sl.sites[q]? with
  | none => simp
  | some row =>
    by_cases sameRow : r = q
    · by_cases sameCol : c = k
      · simp [sameRow, sameCol]
      · simp [sameRow, sameCol, Ne.symm sameCol]
    · simp [sameRow, Ne.symm sameRow]

/-! ## What a token's creation leaves -/

section Created

variable (n : Lane) (d : Dest) (t : DieType) (u : StripUnit) (i : SlotId) (r c : Nat) (x : Site) (cls : Nat) (g : Group)
  (s : State)

/-- The state after a token's creation, but for what the end of the lane's waiting writes. -/
theorem grantedState_eq : grantedState n d t u i r c x cls g s = { s with
    slots := s.slots.set i
      { ((s.slots.get i).updSite r c fun x => { x with state := .reserved, attempts := 0 }).advanceFloor with
        exhausted := false }
    strip := { s.strip with units := s.strip.units.modify d.unit (·.granted (s.strip.matching u) g d.pos) }
    tokens := s.tokens ++ [⟨i, r, c, x.bin, cls, g, t, s.recipes.generation.get t, n, some d, .picker,
      decide (s.log.policy = .stall)⟩]
    log := { s.log with reserved := if decide (s.log.policy = .stall) then s.log.reserved + 1 else s.log.reserved }
    picker := ⟨.stepping, n⟩
    control := { s.control with waits := (grantedState n d t u i r c x cls g s).control.waits }
    conds := (grantedState n d t u i r c x cls g s).conds, host := (grantedState n d t u i r c x cls g s).host } :=
  endWait_frame _ _

/-- STEP's sending writes the links and the line alone. -/
theorem createToken_frame : createToken n d t u i r c x cls g s = { grantedState n d t u i r c x cls g s with
    links := (createToken n d t u i r c x cls g s).links, wire := (createToken n d t u i r c x cls g s).wire } := by
  rw [createToken_eq]
  cases s.tableOfSlot i <;> rfl

theorem createToken_picker : (createToken n d t u i r c x cls g s).picker = ⟨.stepping, n⟩ := by
  rw [createToken_frame, grantedState_eq]

theorem createToken_tokens : (createToken n d t u i r c x cls g s).tokens = s.tokens ++ [⟨i, r, c, x.bin, cls, g, t,
    s.recipes.generation.get t, n, some d, .picker, decide (s.log.policy = .stall)⟩] := by
  rw [createToken_frame, grantedState_eq]

theorem createToken_reserved : (createToken n d t u i r c x cls g s).log.reserved =
    s.log.reserved + if s.log.policy = .stall then 1 else 0 := by
  rw [createToken_frame, grantedState_eq]
  by_cases stall : s.log.policy = .stall <;> simp [stall]

theorem createToken_slot : (createToken n d t u i r c x cls g s).slots.get i =
    { ((s.slots.get i).updSite r c fun x => { x with state := .reserved, attempts := 0 }).advanceFloor with
      exhausted := false } := by
  rw [createToken_frame]
  exact grantedState_slot n d t u i r c x cls g s

theorem createToken_unit (j : Nat) : (createToken n d t u i r c x cls g s).unit j =
    (s.unit j).map fun v => if d.unit = j then v.granted (s.strip.matching u) g d.pos else v := by
  rw [createToken_frame, grantedState_eq]
  exact List.getElem?_modify ..

theorem createToken_order {m : Table} (bound : s.tableOfSlot i = some m) :
    ((createToken n d t u i r c x cls g s).links.get (tableLink m)).outstanding =
      some ⟨.step, (s.links.get (tableLink m)).nextNumber⟩ := by
  obtain ⟨-, links, -⟩ := grantedState_frame n d t u i r c x cls g s
  rw [createToken_eq, bound, Option.elim_some, sendOrder, PerLink.get_set_same, links]

end Created

/-- A lane whose waiting ends does not wait. -/
theorem endWait_waiting (n : Lane) (s : State) : ((endWait n s).control.waits.get n).waiting = false := by
  unfold endWait
  dsimp only
  split
  next waits =>
    have reset : (((s.updWait n fun _ => .reset).control.waits).get n).waiting = false :=
      congrArg Wait.waiting (PerLane.get_set_same _ _ _)
    split
    · rw [syncStarved_frame]
      exact reset
    · exact reset
  next idle => exact Bool.eq_false_iff.2 idle

theorem createToken_waiting (n : Lane) (d : Dest) (t : DieType) (u : StripUnit) (i : SlotId) (r c : Nat) (x : Site)
    (cls : Nat) (g : Group) (s : State) :
    ((createToken n d t u i r c x cls g s).control.waits.get n).waiting = false := by
  rw [createToken_frame]
  exact endWait_waiting n _

/-! ## How a grant ends (R93 to R95) -/

section Grant

variable {n : Lane} {d : Dest} {u : StripUnit} {p : Position} {s : State}

/-- The group a grant's search asks for (R58, R74). -/
def Strip.wantedGroup (t : Strip) (u : StripUnit) : Option Group := if t.matching u then u.group else none

/-- The end of a grant by the end of its search. -/
def grantEnd (n : Lane) (d : Dest) (u : StripUnit) (t : DieType) (s : State) : SearchResult → GrantResult
  | .found i r c x cls g => .created (createToken n d t u i r c x cls g s)
  | result => .failed (searchFailed n t result s)

theorem grantLane_noRoom (stall : s.log.policy = .stall) (full : 1024 ≤ s.log.records.length + s.log.reserved) :
    grantLane n s = .noRoom :=
  if_pos ⟨stall, decide_eq_false (Nat.not_lt.2 full)⟩

/-- With room in the log the search of the lane's next position decides the grant. -/
theorem grantLane_eq (room : s.log.policy = .overwrite ∨ s.log.records.length + s.log.reserved < 1024)
    (next : s.strip.nextPosition n = some d) (unit : s.unit d.unit = some u) (position : u.position d.pos = some p) :
    grantLane n s = grantEnd n d u p.dieType { s with searchAgain := s.searchAgain.set n false }
      (search p.dieType (s.strip.wantedGroup u) { s with searchAgain := s.searchAgain.set n false }) := by
  have notFull : ¬(s.log.policy = .stall ∧ s.log.roomToReserve = false) := by
    rintro ⟨stall, full⟩
    rcases room with overwrite | room
    · rw [stall] at overwrite
      cases overwrite
    · exact absurd room (of_decide_eq_false full)
  rw [grantLane, if_neg notFull]
  simp only [next, unit, position]
  rfl

theorem grantLane_cases (n : Lane) (s : State) : grantLane n s = .noRoom ∨ ∃ d u p, grantLane n s =
    grantEnd n d u (Position.dieType p) { s with searchAgain := s.searchAgain.set n false }
      (search p.dieType (s.strip.wantedGroup u) { s with searchAgain := s.searchAgain.set n false }) := by
  unfold grantLane
  split
  · exact .inl rfl
  cases s.strip.nextPosition n with
  | none => exact .inl rfl
  | some d =>
    cases unit : s.unit d.unit with
    | none => exact .inl (by simp only [unit])
    | some u =>
      cases position : u.position d.pos with
      | none => exact .inl (by simp only [unit, position])
      | some p =>
        refine .inr ⟨d, u, p, ?_⟩
        simp only [unit, position]
        rfl

/-- A grant that fails, fails at its search. -/
theorem failed_of_grantEnd {t : DieType} {s' : State} {result : SearchResult}
    (failed : grantEnd n d u t s result = .failed s') : ∃ r, s' = searchFailed n t r s := by
  cases result with
  | found => cases failed
  | _ => cases failed; exact ⟨_, rfl⟩

end Grant

end Sys2Proof.Machine

namespace Sys2Proof.Machine

/-! ## Requests and the lane chosen (R91, R92, R123) -/

theorem State.usable_iff {s : State} {n : Lane} : s.usable n = true ↔
    (s.lanes.get n).enable = true ∧ (s.lanes.get n).degraded = false ∧ (s.links.get (bonderLink n)).state = .up := by
  simp only [State.usable, Bool.and_eq_true, Bool.not_eq_true', decide_eq_true_iff, and_assoc]

theorem State.requests_iff {s : State} {n : Lane} : s.requests n = true ↔
    s.control.cell = .running ∧ s.usable n = true ∧ (s.lanes.get n).nest = .empty ∧ s.strip.nextPosition n ≠ none ∧
      ((s.control.waits.get n).waiting = false ∨ s.searchAgain.get n = true) := by
  simp only [State.requests, Bool.and_eq_true, Bool.or_eq_true, Bool.not_eq_true', decide_eq_true_iff, and_assoc,
    Option.isSome_iff_ne_none]

theorem State.chosenLane_of_one {s : State} {n : Lane} (asks : s.requests n = true)
    (alone : s.requests (otherLane n) = false) : s.chosenLane = some n := by
  cases n with
  | one => simp only [State.chosenLane, asks, show s.requests .two = false from alone]
  | two => simp only [State.chosenLane, asks, show s.requests .one = false from alone]

theorem State.chosenLane_of_both {s : State} {n : Lane} (one : s.requests .one = true) (two : s.requests .two = true)
    (first : (s.lanes.get n).collet = .idle ∧ (s.lanes.get (otherLane n)).collet ≠ .idle ∨
      ((s.lanes.get n).collet = .idle ↔ (s.lanes.get (otherLane n)).collet = .idle) ∧ n = otherLane s.picker.lastLane) :
    s.chosenLane = some n := by
  have choice : s.chosenLane =
      if (s.lanes.get .one).collet = .idle ∧ (s.lanes.get .two).collet ≠ .idle then some .one
      else if (s.lanes.get .two).collet = .idle ∧ (s.lanes.get .one).collet ≠ .idle then some .two
      else some (otherLane s.picker.lastLane) := by
    simp only [State.chosenLane, one, two, Bool.and_eq_true, Bool.not_eq_true', decide_eq_true_iff,
      decide_eq_false_iff_not, ne_eq]
  rw [choice]
  rcases first with ⟨mine, others⟩ | ⟨same, turn⟩
  · cases n with
    | one => exact if_pos ⟨mine, others⟩
    | two => rw [if_neg fun h => others h.1, if_pos ⟨mine, others⟩]
  · cases n with
    | one => rw [if_neg fun h => h.2 (same.1 h.1), if_neg fun h => h.2 (same.2 h.1), ← turn]
    | two => rw [if_neg fun h => h.2 (same.2 h.1), if_neg fun h => h.2 (same.1 h.1), ← turn]

section Arbiter

variable {n : Lane} {s t : State}

theorem arbitrate_noRoom (idle : s.picker.state = .idle) (chosen : s.chosenLane = some n)
    (ended : grantLane n s = .noRoom) : arbitrate s = s := by
  simp only [arbitrate, idle, chosen, ended, if_true]

theorem arbitrate_created (idle : s.picker.state = .idle) (chosen : s.chosenLane = some n)
    (ended : grantLane n s = .created t) : arbitrate s = t := by
  simp only [arbitrate, idle, chosen, ended, if_true]

/-- The state a grant leaves: as it found it, when it ends for want of room. -/
def GrantResult.left (s : State) : GrantResult → State
  | .noRoom => s
  | .created t => t
  | .failed t => t

theorem arbitrate_failed (idle : s.picker.state = .idle) (chosen : s.chosenLane = some n)
    (ended : grantLane n s = .failed t) :
    arbitrate s = if t.requests (otherLane n) then (grantLane (otherLane n) t).left t else t := by
  simp only [arbitrate, idle, chosen, ended, if_true]
  split
  · cases grantLane (otherLane n) t <;> rfl
  · rfl

end Arbiter

/-! ## What a failed grant leaves for the other lane -/

/-- Entering waiting writes the lane's waiting, the conditions and the command link alone. -/
theorem enterWait_frame (n : Lane) (r : WaitReason) (s : State) : enterWait n r s = { s with
    control := { s.control with waits := (enterWait n r s).control.waits }
    conds := (enterWait n r s).conds, host := (enterWait n r s).host } := by
  unfold enterWait
  dsimp only
  split
  · split
    · rw [raise_frame]
      rfl
    · rfl
  · rfl

theorem enterWait_waits_other {n m : Lane} (other : m ≠ n) (r : WaitReason) (s : State) :
    (enterWait n r s).control.waits.get m = s.control.waits.get m := by
  unfold enterWait
  dsimp only
  split
  · split
    · rw [raise_frame]
      exact (PerLane.get_set _ _ _ _).trans (if_neg other.symm)
    · exact (PerLane.get_set _ _ _ _).trans (if_neg other.symm)
  · exact (PerLane.get_set _ _ _ _).trans (if_neg other.symm)

/-- The request of a lane looks at the cell, the lanes, the links, the strip, its waiting and its mark alone. -/
theorem State.requests_congr {s t : State} {n : Lane} (cell : t.control.cell = s.control.cell) (lanes : t.lanes = s.lanes)
    (links : t.links = s.links) (strip : t.strip = s.strip) (wait : t.control.waits.get n = s.control.waits.get n)
    (mark : t.searchAgain.get n = s.searchAgain.get n) : t.requests n = s.requests n := by
  simp only [State.requests, State.usable, cell, lanes, links, strip, wait, mark]

theorem requests_enterWait_other {n m : Lane} (other : m ≠ n) (r : WaitReason) (s : State) :
    (enterWait n r s).requests m = s.requests m := by
  have frame := enterWait_frame n r s
  exact State.requests_congr (by rw [frame]) (by rw [frame]) (by rw [frame]) (by rw [frame])
    (enterWait_waits_other other r s) (by rw [frame])

theorem requests_searchFailed_other {n m : Lane} (other : m ≠ n) (t : DieType) (r : SearchResult) (s : State) :
    (searchFailed n t r s).requests m = s.requests m := by
  unfold searchFailed
  split
  · rw [requests_enterWait_other other]
    split
    · rfl
    · rw [raise_frame]
      rfl
  all_goals exact requests_enterWait_other other _ s

theorem requests_mark_other {n m : Lane} (other : m ≠ n) (s : State) :
    ({ s with searchAgain := s.searchAgain.set n false } : State).requests m = s.requests m :=
  State.requests_congr rfl rfl rfl rfl rfl ((PerLane.get_set _ _ _ _).trans (if_neg other.symm))

/-- A grant that fails at its search leaves the other lane's request as it was. -/
theorem requests_of_failed {n m : Lane} {s t : State} (other : m ≠ n) (ended : grantLane n s = .failed t) :
    t.requests m = s.requests m := by
  rcases grantLane_cases n s with noRoom | ⟨d, u, p, searched⟩
  · exact absurd (noRoom.symm.trans ended) nofun
  · obtain ⟨result, rfl⟩ := failed_of_grantEnd (searched.symm.trans ended)
    exact (requests_searchFailed_other other _ _ _).trans (requests_mark_other other s)

theorem otherLane_ne (n : Lane) : otherLane n ≠ n := by
  cases n <;> decide

/-! ## The next position (R78 to R81) -/

theorem PosState.final_iff {p : PosState} :
    p.final = true ↔ p = .placed ∨ p = .suspect ∨ p = .uncertain ∨ p = .abandoned := by
  cases p <;> decide

theorem StripUnit.resolved_iff {u : StripUnit} : u.resolved = true ↔
    u.state = .skipped ∨ u.state = .voided ∨ ∀ p ∈ u.positions,
      p.state = .placed ∨ p.state = .suspect ∨ p.state = .uncertain ∨ p.state = .abandoned := by
  simp only [StripUnit.resolved, Bool.or_eq_true, decide_eq_true_iff, List.all_eq_true, PosState.final_iff, or_assoc]

/-- A position number of a unit may be filled: EMPTY, on no base or on a PLACED one (R81). -/
def StripUnit.mayFill (u : StripUnit) (k : Nat) : Prop :=
  ∃ p, u.position k = some p ∧ p.state = .empty ∧ ∀ b, p.stackOn = some b → ∃ q, u.position b = some q ∧ q.state = .placed

theorem StripUnit.fillable_iff {u : StripUnit} {p : Position} : u.fillable p = true ↔
    p.state = .empty ∧ ∀ b, p.stackOn = some b → ∃ q, u.position b = some q ∧ q.state = .placed := by
  unfold StripUnit.fillable
  cases p.stackOn with
  | none => simp
  | some b => simp [Option.any_eq_true]

theorem StripUnit.mayFill_iff {u : StripUnit} {k : Nat} :
    u.mayFill (k + 1) ↔ ∃ p, u.positions[k]? = some p ∧ u.fillable p = true := by
  simp only [StripUnit.mayFill, StripUnit.position, StripUnit.fillable_iff]

theorem StripUnit.not_mayFill_zero (u : StripUnit) : ¬u.mayFill 0 := by
  rintro ⟨p, none, -⟩
  cases none

/-- The first fillable position of a unit may be filled, and none below it (R81). -/
theorem StripUnit.firstFillable_eq_some {u : StripUnit} {k : Nat} (first : u.firstFillable = some k) :
    u.mayFill k ∧ ∀ j, j < k → ¬u.mayFill j := by
  obtain ⟨i, found, rfl⟩ := Option.map_eq_some_iff.1 first
  obtain ⟨inUnit, fits, below⟩ := List.findIdx?_eq_some_iff_getElem.1 found
  refine ⟨StripUnit.mayFill_iff.2 ⟨_, List.getElem?_eq_getElem inUnit, fits⟩, fun j lt may => ?_⟩
  cases j with
  | zero => exact u.not_mayFill_zero may
  | succ j =>
    obtain ⟨p, here, fillable⟩ := StripUnit.mayFill_iff.1 may
    obtain ⟨inside, rfl⟩ := List.getElem?_eq_some_iff.1 here
    exact below j (Nat.lt_of_succ_lt_succ lt) fillable

theorem StripUnit.firstFillable_eq_none {u : StripUnit} (none : u.firstFillable = none) (k : Nat) : ¬u.mayFill k := by
  intro may
  cases k with
  | zero => exact u.not_mayFill_zero may
  | succ k =>
    obtain ⟨p, here, fillable⟩ := StripUnit.mayFill_iff.1 may
    have noneFits := List.findIdx?_eq_none_iff.1 (Option.map_eq_none_iff.1 none)
    exact Bool.noConfusion (fillable.symm.trans (noneFits p (List.mem_of_getElem? here)))

/-- The next position among the working units given: the first that may be filled, of the first unit with one (R81). -/
def Strip.nextAmong (t : Strip) (n : Lane) (working : List StripUnit) : Prop :=
  (∀ d, t.nextPosition n = some d → ∃ before u after, working = before ++ u :: after ∧ u.index = d.unit ∧
    u.mayFill d.pos ∧ (∀ k, k < d.pos → ¬u.mayFill k) ∧ ∀ v ∈ before, ∀ k, ¬v.mayFill k) ∧
  (t.nextPosition n = none → ∀ u ∈ working, ∀ k, ¬u.mayFill k)

theorem Strip.nextAmong_workingUnits (t : Strip) (n : Lane) : t.nextAmong n (t.workingUnits n) := by
  constructor
  · intro d next
    obtain ⟨before, u, after, split, found, earlier⟩ := List.findSome?_eq_some_iff.1 next
    obtain ⟨k, first, rfl⟩ := Option.map_eq_some_iff.1 found
    obtain ⟨may, below⟩ := StripUnit.firstFillable_eq_some first
    exact ⟨before, u, after, split, rfl, may, below, fun v mem =>
      StripUnit.firstFillable_eq_none (Option.map_eq_none_iff.1 (earlier v mem))⟩
  · intro next u mem
    exact StripUnit.firstFillable_eq_none (Option.map_eq_none_iff.1 (List.findSome?_eq_none_iff.1 next u mem))

section LaneUnits

variable {t : Strip} {n : Lane}

/-- The test that a unit stands in a lane's order (R79). -/
def StripUnit.inOrder (n : Lane) (u : StripUnit) : Bool := decide (u.lane = n) && !u.resolved

theorem Strip.laneUnits_eq (t : Strip) (n : Lane) : t.laneUnits n = t.units.filter (StripUnit.inOrder n) := rfl

theorem StripUnit.inOrder_iff {u : StripUnit} : u.inOrder n = true ↔ u.lane = n ∧ ¬u.resolved = true := by
  simp only [StripUnit.inOrder, Bool.and_eq_true, decide_eq_true_iff, Bool.not_eq_true', Bool.not_eq_true]

/-- Units of which every one of the lane is resolved give the lane's order nothing. -/
theorem filter_inOrder_eq_nil {l : List StripUnit} (resolved : ∀ u ∈ l, u.lane = n → u.resolved = true) :
    l.filter (StripUnit.inOrder n) = [] := by
  rw [List.filter_eq_nil_iff]
  exact fun u mem inOrder => (StripUnit.inOrder_iff.1 inOrder).2 (resolved u mem (StripUnit.inOrder_iff.1 inOrder).1)

/-- The first unresolved unit of the lane heads what a list of units gives the lane's order. -/
theorem filter_inOrder_eq_cons {before rest : List StripUnit} {u : StripUnit} (lane : u.lane = n)
    (unresolved : ¬u.resolved = true) (earlier : ∀ v ∈ before, v.lane = n → v.resolved = true) :
    (before ++ u :: rest).filter (StripUnit.inOrder n) = u :: rest.filter (StripUnit.inOrder n) := by
  rw [List.filter_append, filter_inOrder_eq_nil earlier, List.nil_append,
    List.filter_cons_of_pos (StripUnit.inOrder_iff.2 ⟨lane, unresolved⟩)]

theorem Strip.workingUnits_of_empty_left {u : StripUnit} {rest : List StripUnit} (order : t.laneUnits n = u :: rest)
    (empty : ∃ p ∈ u.positions, p.state = .empty) : t.workingUnits n = [u] := by
  have any : (u.positions.any fun p => decide (p.state = .empty)) = true := by
    simpa only [List.any_eq_true, decide_eq_true_iff] using empty
  cases rest with
  | nil => simp only [Strip.workingUnits, order]
  | cons v rest => simp only [Strip.workingUnits, order, any, if_true]

theorem Strip.workingUnits_of_last {u : StripUnit} (order : t.laneUnits n = [u]) : t.workingUnits n = [u] := by
  simp only [Strip.workingUnits, order]

theorem Strip.workingUnits_of_two {u v : StripUnit} {rest : List StripUnit} (order : t.laneUnits n = u :: v :: rest)
    (full : ∀ p ∈ u.positions, p.state ≠ .empty) : t.workingUnits n = [u, v] := by
  have noneEmpty : ¬(u.positions.any fun p => decide (p.state = .empty)) = true := by
    simpa only [List.any_eq_true, decide_eq_true_iff, not_exists, not_and] using full
  simp only [Strip.workingUnits, order, noneEmpty, if_false, Bool.false_eq_true]

theorem Strip.nextPosition_of_no_units (order : t.laneUnits n = []) : t.nextPosition n = none := by
  simp only [Strip.nextPosition, Strip.workingUnits, order, List.findSome?_nil]

end LaneUnits

/-! ## The obligation -/

/-- How GRANT ends when the lane chosen fails at its search and no other lane requests. -/
theorem arbitrate_failed_alone {n : Lane} {s t : State} (idle : s.picker.state = .idle) (asks : s.requests n = true)
    (alone : s.requests (otherLane n) = false) (ended : grantLane n s = .failed t) : arbitrate s = t := by
  rw [arbitrate_failed idle (State.chosenLane_of_one asks alone) ended, requests_of_failed (otherLane_ne n) ended, alone,
    if_neg Bool.false_ne_true]

section GrantEnds

variable {n : Lane} {d : Dest} {u : StripUnit} {p : Position} {s : State}

/-- The state a grant's search looks at: the lane's search-again mark is clear (R93). -/
def State.unmarked (s : State) (n : Lane) : State := { s with searchAgain := s.searchAgain.set n false }

variable (room : s.log.policy = .overwrite ∨ s.log.records.length + s.log.reserved < 1024)
  (next : s.strip.nextPosition n = some d) (unit : s.unit d.unit = some u) (position : u.position d.pos = some p)

include room next unit position

theorem grantLane_found {i : SlotId} {r c : Nat} {x : Site} {k : Nat} {g : Group}
    (found : search p.dieType (s.strip.wantedGroup u) (s.unmarked n) = .found i r c x k g) :
    grantLane n s = .created (createToken n d p.dieType u i r c x k g (s.unmarked n)) := by
  rw [grantLane_eq room next unit position, ← State.unmarked, found]
  rfl

theorem grantLane_unmounted (unmounted : search p.dieType (s.strip.wantedGroup u) (s.unmarked n) = .unmounted) :
    grantLane n s = .failed (enterWait n .unmounted (s.unmarked n)) := by
  rw [grantLane_eq room next unit position, ← State.unmarked, unmounted]
  rfl

theorem grantLane_groupOnly (groupOnly : search p.dieType (s.strip.wantedGroup u) (s.unmarked n) = .groupOnly) :
    grantLane n s = .failed (enterWait n .group (s.unmarked n)) := by
  rw [grantLane_eq room next unit position, ← State.unmarked, groupOnly]
  rfl

theorem grantLane_noDie {i : SlotId} (noDie : search p.dieType (s.strip.wantedGroup u) (s.unmarked n) = .noDie i) :
    grantLane n s = .failed (enterWait n .noDie (if (s.slots.get i).exhausted then s.unmarked n
      else raise (.waferExhausted i p.dieType)
        { s.unmarked n with slots := s.slots.set i { s.slots.get i with exhausted := true } })) := by
  rw [grantLane_eq room next unit position, ← State.unmarked, noDie]
  rfl

end GrantEnds

/-- A granted unit takes the die's group when it is under matching and has none (R77, R95). -/
theorem StripUnit.granted_eq (matching : Bool) (g : Group) (pos : Nat) (u : StripUnit) : u.granted matching g pos = { u with
    positions := u.positions.modify (pos - 1) fun q => { q with state := .allocated }
    state := if u.state = .opened then .assembling else u.state
    group := if matching = true ∧ u.group = none then some g else u.group } := by
  simp only [StripUnit.granted, Bool.and_eq_true, Option.isNone_iff_eq_none]

/-- A slot whose site at a row and column is RESERVED for a token (R95). -/
def Slot.reserving (r c : Nat) (sl : Slot) : Slot := sl.updSite r c fun x => { x with state := .reserved, attempts := 0 }

/-- Settles O30: the ends of a lane's grant, the lane chosen, and the lane's next position. -/
theorem grantCreatesAToken : Obligations.GrantCreatesAToken := by
  refine ⟨fun n d u p s on idle asks alone next unit position => ?granted, fun n d u p s next unit position =>
      ⟨fun stall full => grantLane_noRoom stall full,
        fun room => ⟨fun i r c x k g => grantLane_found room next unit position,
        grantLane_unmounted room next unit position, grantLane_groupOnly room next unit position,
        fun i => grantLane_noDie room next unit position⟩⟩,
    fun n s on idle one two first => ?both, fun n s => ⟨State.usable_iff, State.requests_iff⟩, fun n t => ?nextPosition⟩
  case granted =>
    have event : exec .grant s = .next (arbitrate s) := live_on on
    have chosen := State.chosenLane_of_one asks alone
    rw [event]
    refine ⟨fun stall full => ?noRoom, fun room => ⟨fun i r c x k g found => ?created, fun unmounted => ?unmounted,
      fun groupOnly => ?groupOnly, fun i noDie => ?noDie⟩⟩
    case noRoom => rw [arbitrate_noRoom idle chosen (grantLane_noRoom stall full)]
    case unmounted =>
      exact congrArg _ (arbitrate_failed_alone idle asks alone (grantLane_unmounted room next unit position unmounted))
    case groupOnly =>
      exact congrArg _ (arbitrate_failed_alone idle asks alone (grantLane_groupOnly room next unit position groupOnly))
    case noDie =>
      exact congrArg _ (arbitrate_failed_alone idle asks alone (grantLane_noDie room next unit position noDie))
    case created =>
      have slot := createToken_slot n d p.dieType u i r c x k g (s.unmarked n)
      have unitAfter := createToken_unit n d p.dieType u i r c x k g (s.unmarked n)
      have site : (s.slots.get i).site r c = some x := site_of_search_found (s := s.unmarked n) found
      refine ⟨_, congrArg _ (arbitrate_created idle chosen (grantLane_found room next unit position found)), rfl,
        createToken_picker .., createToken_tokens .., createToken_reserved .., ?site,
        fun m bound => createToken_order _ _ _ _ _ _ _ _ _ _ (s.unmarked n) bound,
        fun m bound => createToken_wire (s := s.unmarked n) bound, ?exhausted, ?floor, ?passed, ?stopped, ?unit, ?others,
        createToken_waiting ..⟩
      case site =>
        rw [slot]
        exact (Slot.site_updSite r c r c _ _).trans ((if_pos ⟨rfl, rfl⟩).trans (congrArg (Option.map _) site))
      case exhausted => rw [slot]
      case floor =>
        rw [slot]
        exact Slot.floorRow_le_advanceFloor (sl := (s.slots.get i).reserving r c)
      case passed =>
        intro q col y low high here
        rw [slot] at high here
        exact Slot.not_present_of_passed (sl := (s.slots.get i).reserving r c) low high here
      case stopped =>
        rw [slot]
        exact Slot.present_at_floor (sl := (s.slots.get i).reserving r c)
      case unit =>
        have unitBefore : (s.unmarked n).unit d.unit = some u := unit
        rw [unitAfter, unitBefore, Option.map_some, if_pos rfl, StripUnit.granted_eq]
        rfl
      case others =>
        intro j other
        rw [unitAfter]
        simp only [if_neg other.symm, Option.map_id']
        rfl
  case both =>
    have event : exec .grant s = .next (arbitrate s) := live_on on
    have chosen := State.chosenLane_of_both one two first
    have asks : s.requests (otherLane n) = true := by cases n <;> assumption
    rw [event]
    refine ⟨fun noRoom => ?noRoom, fun t created => ?created, fun t failed => ⟨?asks, fun noRoom => ?otherNoRoom,
      fun v ended => ?other⟩⟩
    case noRoom => rw [arbitrate_noRoom idle chosen noRoom]
    case created => rw [arbitrate_created idle chosen created]
    case asks => rw [requests_of_failed (otherLane_ne n) failed, asks]
    case otherNoRoom =>
      rw [arbitrate_failed idle chosen failed, noRoom, GrantResult.left, ite_self]
    case other =>
      rw [arbitrate_failed idle chosen failed, requests_of_failed (otherLane_ne n) failed, asks, if_pos rfl]
      rcases ended with created | failed <;> simp only [*, GrantResult.left]
  case nextPosition =>
    have among := t.nextAmong_workingUnits n
    refine ⟨fun u => StripUnit.resolved_iff, fun all => Strip.nextPosition_of_no_units
      (filter_inOrder_eq_nil fun u mem lane => StripUnit.resolved_iff.2 (all u mem lane)), ?_⟩
    intro before u rest units lane unresolved earlier
    have order : t.laneUnits n = u :: rest.filter (StripUnit.inOrder n) := by
      rw [Strip.laneUnits_eq, units]
      exact filter_inOrder_eq_cons lane (fun resolved => unresolved (StripUnit.resolved_iff.1 resolved))
        fun v mem laneV => StripUnit.resolved_iff.2 (earlier v mem laneV)
    refine ⟨fun empty => ?empty, fun last => ?last, fun full between v after split laneV unresolvedV resolved => ?pair⟩
    case empty =>
      rw [Strip.workingUnits_of_empty_left order empty] at among
      exact among
    case last =>
      rw [filter_inOrder_eq_nil fun v mem laneV => StripUnit.resolved_iff.2 (last v mem laneV)] at order
      rw [Strip.workingUnits_of_last order] at among
      exact among
    case pair =>
      rw [split, filter_inOrder_eq_cons laneV (fun resolved => unresolvedV (StripUnit.resolved_iff.1 resolved))
        fun w mem laneW => StripUnit.resolved_iff.2 (resolved w mem laneW)] at order
      rw [Strip.workingUnits_of_two order full] at among
      exact among

end Sys2Proof.Machine

/-! The pick cycle, its ends and what becomes of the picker's token (PickCycle, PutDoneAndDropped,
AbortedAndPurgedOnPk). -/

namespace Sys2Proof.Machine

/-! ## STEPPED, PICKED and PICK-FAIL -/

section PickEffects

variable {t : Token} {s : State}

theorem steppedEffect_with_token (k : Table) (stepping : s.picker.state = .stepping) (held : s.tokenAt .picker = some t) :
    steppedEffect k s = sendOrder .pk .pick [u8 (tableCode k)] (setPicker .picking s) := by
  simp only [steppedEffect, stepping, held, if_true]

theorem steppedEffect_without_token (k : Table) (stepping : s.picker.state = .stepping)
    (empty : s.tokenAt .picker = none) : steppedEffect k s = setPicker .idle s := by
  simp only [steppedEffect, stepping, empty, if_true]

theorem pickedEffect_with_token (held : s.tokenAt .picker = some t) : pickedEffect s =
    sendOrder .pk .put [u8 (laneNumber t.lane)]
      (setPicker .putting ((setSite t .taken s).updLane t.lane fun r => { r with nest := .receiving })) := by
  simp only [pickedEffect, held]

theorem pickerIn_of_token {p : PickerState} (state : s.picker.state = p) (held : s.tokenAt .picker = some t) :
    s.pickerIn p = true := by
  rw [State.pickerIn, decide_eq_true state, held]
  rfl

section PickFail

variable {x : Site} {r : Recipe} {k : Table} (held : s.tokenAt .picker = some t)
  (site : (s.slots.get t.slot).site t.row t.col = some x) (reserved : x.state = .reserved)
  (active : s.recipes.active.get t.dieType = some r)

include held site reserved active

/-- A PICK-FAIL is answered by another PICK while the attempts do not exceed the recipe's limit (R98). -/
theorem pickFailEffect_retry (bound : s.tableOfSlot t.slot = some k) (within : x.attempts + 1 ≤ r.retryLimit) :
    pickFailEffect s = sendOrder .pk .pick [u8 (tableCode k)]
      (s.updSlot t.slot fun sl => sl.updSite t.row t.col fun y => { y with attempts := x.attempts + 1 }) := by
  have attempts : s.tokenAttempts t = some x.attempts := by
    rw [State.tokenAttempts, site, Option.bind_some, if_pos reserved]
  have limit : s.retryLimit t.dieType = r.retryLimit := by rw [State.retryLimit, active]; rfl
  simp only [pickFailEffect, held, attempts, limit, bound, within, Option.getD_some, Option.map_some, if_true]

/-- After the last attempt the site is given up as MISSED (R19, R98). -/
theorem pickFailEffect_missed (beyond : r.retryLimit < x.attempts + 1) :
    pickFailEffect s = setPicker .idle (missToken t s) := by
  have attempts : s.tokenAttempts t = some x.attempts := by
    rw [State.tokenAttempts, site, Option.bind_some, if_pos reserved]
  have limit : s.retryLimit t.dieType = r.retryLimit := by rw [State.retryLimit, active]; rfl
  simp only [pickFailEffect, held, attempts, limit, Option.getD_some, if_neg (Nat.not_le.2 beyond)]

end PickFail

/-! ## The end of a token -/

theorem returnReservation_eq (t : Token) (s : State) : returnReservation t s =
    { s with log := { s.log with reserved := if t.reserved then s.log.reserved - 1 else s.log.reserved } } := by
  unfold returnReservation
  split <;> rfl

theorem removeToken_of_not_finished
    (unfinished : ¬State.stripFinished { s with tokens := s.tokens.filter fun u => decide (u.place ≠ t.place) }) :
    removeToken t s = { s with tokens := s.tokens.filter fun u => decide (u.place ≠ t.place) } :=
  stripDoneDue_of_not_finished unfinished

theorem removeToken_of_finished
    (finished : State.stripFinished { s with tokens := s.tokens.filter fun u => decide (u.place ≠ t.place) }) :
    removeToken t s =
      ejectStripDue (raiseStripDone { s with tokens := s.tokens.filter fun u => decide (u.place ≠ t.place) }) :=
  stripDoneDue_of_finished finished

end PickEffects

/-- A STEPPED that a STEP awaits takes effect on its table (R96). -/
theorem exec_stepped_of_awaits {k : Table} {n : Byte} {s : State} (on : s.powered = true)
    (awaited : s.awaits (tableLink k) .step n) :
    exec (.stepped (tableLink k) n) s = .next (closeEvent s (steppedEffect k (endOrder (tableLink k) s))) := by
  refine (live_completing on awaited rfl).trans ?_
  rw [tableOfLink_tableLink]

/-- Settles O31: the three reports, then the ends of a token. -/
theorem pickCycle : Obligations.PickCycle := by
  refine ⟨⟨fun k n t s on awaited stepping held => ?stepped, fun k n s on awaited stepping empty => ?steppedEmpty,
    fun n t s on awaited picking held => ?picked⟩,
    fun n t x r k s on awaited picking held site reserved active bound => ?pickFail,
    fun t s => ⟨?release, ?miss, rfl, fun st r c => Slot.site_updSite t.row t.col r c _ _⟩, fun t s => ?remove⟩
  case stepped =>
    rw [exec_stepped_of_awaits on awaited,
      steppedEffect_with_token (s := endOrder (tableLink k) s) k stepping held]
    rfl
  case steppedEmpty =>
    rw [exec_stepped_of_awaits on awaited,
      steppedEffect_without_token (s := endOrder (tableLink k) s) k stepping empty]
    rfl
  case picked =>
    have event : exec (.picked .pk n) s = .next (closeEvent s (pickedEffect (endOrder .pk s))) :=
      live_completing on awaited (by rw [pickerIn_of_token picking held]; rfl)
    rw [event, pickedEffect_with_token (s := endOrder .pk s) held]
    rfl
  case pickFail =>
    have event : exec (.pickFail .pk n) s = .next (closeEvent s (pickFailEffect (endOrder .pk s))) :=
      live_completing on awaited (by rw [pickerIn_of_token picking held]; rfl)
    rw [event]
    refine ⟨fun within => ?_, fun beyond => ?_⟩
    · rw [pickFailEffect_retry (s := endOrder .pk s) held site reserved active bound within]
    · rw [pickFailEffect_missed (s := endOrder .pk s) held site reserved active beyond]
  case release =>
    rw [releaseToken, returnReservation_eq]
    rfl
  case miss =>
    rw [missToken, returnReservation_eq]
    rfl
  case remove =>
    intro rest finished done eject
    have free : eject ↔ rest.control.cell = .running ∧ rest.linkFree .ix = true := by
      rw [linkFree_iff]
      rfl
    refine ⟨removeToken_of_not_finished, fun strip busy => ?_, fun strip idle => ?_⟩
    · rw [removeToken_of_finished strip]
      exact ejectStripDue_raiseStripDone_of_not_free ((not_congr free).1 busy)
    · obtain ⟨running, ix⟩ := free.1 idle
      rw [removeToken_of_finished strip]
      exact ejectStripDue_raiseStripDone_of_free strip.1 running ix

/-! ## PUT-DONE and DROPPED -/

/-- The end of an order changes no link's state. -/
theorem endOrder_link_state (l m : Link) (s : State) : ((endOrder l s).links.get m).state = (s.links.get m).state := by
  rw [endOrder, updLink_get]
  split
  next same => rw [same]
  · rfl

theorem emptyReceiving_receiving {n : Lane} {s : State} (receiving : (s.lanes.get n).nest = .receiving) :
    emptyReceiving n s = { s with lanes := s.lanes.set n { s.lanes.get n with nest := .empty } } := by
  rw [emptyReceiving, State.updLane, if_pos receiving]

theorem emptyReceiving_other {n : Lane} {s : State} (other : (s.lanes.get n).nest ≠ .receiving) :
    emptyReceiving n s = s := by
  rw [emptyReceiving, State.updLane, if_neg other, PerLane.set_get_self]

/-- The effect of a PUT-DONE: the token in its lane's nest, the nest by the bonder link and the settle interval (R99,
R107). -/
theorem putDoneEffect_with_token {t : Token} {s : State} (held : s.tokenAt .picker = some t) : putDoneEffect s =
    { moveToken t (.nest t.lane) s with
      picker := { s.picker with state := .idle }
      lanes := s.lanes.set t.lane
        ((s.lanes.get t.lane).nestPut (decide ((s.links.get (bonderLink t.lane)).state = .up))) } := by
  simp only [putDoneEffect, held]
  rfl

theorem droppedEffect_with_token {t : Token} {s : State} (held : s.tokenAt .picker = some t) : droppedEffect s =
    setPicker .idle (emptyReceiving t.lane (settleDie t .dropped none none none .empty s)) := by
  simp only [droppedEffect, held]

theorem LaneRec.nestPut_ready {r : LaneRec} (instant : r.settle = 0) :
    r.nestPut true = { r with nest := .ready, settleTimer := none } := by
  rw [LaneRec.nestPut, if_pos rfl, if_pos instant]

theorem LaneRec.nestPut_settling {r : LaneRec} (interval : 0 < r.settle) :
    r.nestPut true = { r with nest := .settling, settleTimer := some r.settle } := by
  rw [LaneRec.nestPut, if_pos rfl, if_neg (Nat.pos_iff_ne_zero.1 interval)]

/-- Settles O32: the two reports of a PUT, then the small effects they are made of. -/
theorem putDoneAndDropped : Obligations.PutDoneAndDropped := by
  refine ⟨fun n t s on awaited putting held => ⟨?putDone, ?dropped⟩, fun _ _ _ => rfl,
    fun n s => ⟨emptyReceiving_receiving, emptyReceiving_other⟩, fun _ _ => rfl⟩
  case putDone =>
    have event : exec (.putDone .pk n) s = .next (closeEvent s (putDoneEffect (endOrder .pk s))) :=
      live_completing on awaited (by rw [pickerIn_of_token putting held]; rfl)
    rw [event, putDoneEffect_with_token (s := endOrder .pk s) held, endOrder_link_state]
    intro nest
    refine ⟨fun up instant => ?ready, fun up interval => ?settling, fun down => ?blocked⟩
    case ready =>
      rw [decide_eq_true up, LaneRec.nestPut_ready (r := (endOrder .pk s).lanes.get t.lane) instant]
      rfl
    case settling =>
      rw [decide_eq_true up, LaneRec.nestPut_settling (r := (endOrder .pk s).lanes.get t.lane) interval]
      rfl
    case blocked =>
      rw [decide_eq_false down]
      rfl
  case dropped =>
    have event : exec (.dropped .pk n) s = .next (closeEvent s (droppedEffect (endOrder .pk s))) :=
      live_completing on awaited (by rw [pickerIn_of_token putting held]; rfl)
    rw [event, droppedEffect_with_token (s := endOrder .pk s) held]

/-! ## ABORTED and PURGED on PK (Table 5-4) -/

section AbortedPk

variable {t : Token} {s : State} (held : s.tokenAt .picker = some t)

include held

theorem abortedPkEffect_reserved_empty (reserved : s.siteState t = some .reserved) :
    abortedPkEffect false s = setPicker .idle (releaseToken t s) := by
  simp only [abortedPkEffect, held, reserved, decide_true, and_self, if_true]

theorem abortedPkEffect_reserved_held (reserved : s.siteState t = some .reserved) :
    abortedPkEffect true s = sendOrder .pk .purge [] (setPicker .purging (setSite t .taken s)) := by
  simp only [abortedPkEffect, held, reserved, decide_true, Bool.true_eq_false, and_false, if_false, if_true]

theorem abortedPkEffect_taken_held (taken : s.siteState t = some .taken) :
    abortedPkEffect true s = sendOrder .pk .purge [] (setPicker .purging (emptyReceiving t.lane s)) := by
  have notReserved : decide (s.siteState t = some .reserved) = false := by rw [taken]; rfl
  simp only [abortedPkEffect, held, notReserved, Bool.false_eq_true, false_and, if_false, if_true]

theorem abortedPkEffect_taken_empty (taken : s.siteState t = some .taken) : abortedPkEffect false s =
    (setPicker .idle (moveToken t (.nest t.lane) s)).updLane t.lane fun r =>
      { r with nest := .blocked, settleTimer := none } := by
  have notReserved : decide (s.siteState t = some .reserved) = false := by rw [taken]; rfl
  simp only [abortedPkEffect, held, notReserved, Bool.false_eq_true, false_and, if_false]

theorem purgedPkEffect_with_token :
    purgedPkEffect s = setPicker .idle (settleDie t .purged none none none .empty s) := by
  simp only [purgedPkEffect, held]

end AbortedPk

/-- Settles O33: the site's state and what the picker holds decide an ABORTED on PK. -/
theorem abortedAndPurgedOnPk : Obligations.AbortedAndPurgedOnPk := by
  refine ⟨fun n t s on awaited aborting held => ?aborted, fun n t s on awaited purging held => ?purged⟩
  case aborted =>
    have picker := pickerIn_of_token aborting held
    have lifted : exec (.abortedPk n 0) s = .next (closeEvent s (abortedPkEffect false (endOrder .pk s))) :=
      live_completing on awaited (by rw [picker]; rfl)
    have holds : exec (.abortedPk n 1) s = .next (closeEvent s (abortedPkEffect true (endOrder .pk s))) :=
      live_completing on awaited (by rw [picker]; rfl)
    rw [lifted, holds]
    refine ⟨fun reserved => ?_, fun reserved => ?_, fun taken => ?_, fun taken => ?_⟩
    · rw [abortedPkEffect_reserved_empty (s := endOrder .pk s) held reserved]
    · rw [abortedPkEffect_reserved_held (s := endOrder .pk s) held reserved]
    · rw [abortedPkEffect_taken_held (s := endOrder .pk s) held taken]
    · rw [abortedPkEffect_taken_empty (s := endOrder .pk s) held taken]
      rfl
  case purged =>
    have event : exec (.purgedOnPk n) s = .next (closeEvent s (purgedPkEffect (endOrder .pk s))) :=
      live_completing on awaited (by rw [pickerIn_of_token purging held]; rfl)
    rw [event, purgedPkEffect_with_token (s := endOrder .pk s) held]

end Sys2Proof.Machine

/-! The placement log (CreatingAPlacementRecord, LogCommands). -/

namespace Sys2Proof.Machine

/-! ## A placement record -/

/-- Storing writes the records and the overwrite count alone (R145, R146). -/
theorem Log.store_frame (p : Placement) (l : Log) :
    l.store p = { l with records := (l.store p).records, overwritten := (l.store p).overwritten } := by
  unfold Log.store
  split <;> rfl

theorem Log.store_of_room {p : Placement} {l : Log} (room : l.records.length < 1024) :
    l.store p = { l with records := l.records ++ [p] } :=
  if_pos room

theorem Log.store_of_full {p : Placement} {l : Log} (full : 1024 ≤ l.records.length) :
    l.store p = { l with records := l.records.dropLast ++ [p], overwritten := min 65535 (l.overwritten + 1) } :=
  if_neg (Nat.not_lt.2 full)

/-- The record a token's fate is written in (R142). -/
def placementOf (t : Token) (fate : Fate) (lane : Option Lane) (ctx : Option BondContext) (bond : Option BondFields)
    (s : State) : Placement :=
  ⟨s.log.serial, fate, lane, t.slot, (s.slots.get t.slot).waferId, t.dieType, t.row, t.col, t.bin, t.cls, t.generation,
    stripFields t ctx s, bond⟩

/-- The log with a token's record in it: the serial moved on, the reservation used (R142, R145). -/
def Log.recorded (p : Placement) (used : Bool) (l : Log) : Log :=
  { l.store p with serial := l.serial + 1, reserved := if used then l.reserved - 1 else l.reserved }

theorem createRecord_eq (t : Token) (fate : Fate) (lane : Option Lane) (ctx : Option BondContext)
    (bond : Option BondFields) (s : State) : createRecord t fate lane ctx bond s =
      (let log := s.log.recorded (placementOf t fate lane ctx bond s) t.reserved
       syncLog { s.updSlot t.slot (fun sl => { sl with disposal := sl.disposal + 1 }) with
        log := { log with ageTimer := log.freshAge } }) := rfl

theorem stripFields_of_context (t : Token) (c : BondContext) (s : State) :
    stripFields t (some c) s = some ⟨s.strip.stripId.getD (List.replicate 12 0), c.row, c.col, c.pos⟩ := rfl

theorem stripFields_of_dest {t : Token} {d : Dest} {v : StripUnit} {s : State} (dest : t.dest = some d)
    (unit : s.unit d.unit = some v) :
    stripFields t none s = some ⟨s.strip.stripId.getD (List.replicate 12 0), v.row, v.col, d.pos⟩ := by
  simp only [stripFields, dest, unit, Option.map_some]

theorem stripFields_absent {t : Token} (dest : t.dest = none) (s : State) : stripFields t none s = none := by
  simp only [stripFields, dest]

theorem Log.level_or_aged_iff {l : Log} :
    (l.level || l.aged) = true ↔ l.trigger ≤ l.records.length ∨ l.aged = true := by
  rw [Bool.or_eq_true, Log.level, decide_eq_true_iff]

/-- Settles O34: the record and the log it is stored in, the LOG condition, and the settling of a die. -/
theorem creatingAPlacementRecord : Obligations.CreatingAPlacementRecord := by
  refine ⟨fun t fate lane ctx bond s => ?record, fun s => ⟨fun holds => ?raised, fun below fresh => ?ceased⟩,
    fun _ _ _ _ _ _ _ => rfl⟩
  case record =>
    have frame := Log.store_frame (placementOf t fate lane ctx bond s) s.log
    refine ⟨placementOf t fate lane ctx bond s, _, createRecord_eq t fate lane ctx bond s, ?log, fun room => ?room,
      fun _ full => ?full, ?age, rfl, rfl, rfl, fun dest noContext => ?absent, fun d v dest noContext unit => ?dest,
      fun c context => ?context⟩
    case log =>
      rw [Log.recorded, frame]
    case room =>
      rw [Log.recorded, Log.store_of_room room]
      exact ⟨rfl, rfl⟩
    case full =>
      rw [Log.recorded, Log.store_of_full full]
      exact ⟨rfl, rfl⟩
    case age =>
      rw [Log.recorded, frame]
      rfl
    case absent =>
      subst noContext
      exact stripFields_absent dest s
    case dest =>
      subst noContext
      exact ⟨_, stripFields_of_dest dest unit, fun w id => by rw [id, Option.getD_some]⟩
    case context =>
      subst context
      exact ⟨_, stripFields_of_context t c s, fun w id => by rw [id, Option.getD_some]⟩
  case raised => exact if_pos (Log.level_or_aged_iff.2 holds)
  case ceased =>
    refine if_neg fun h => (Log.level_or_aged_iff.1 h).elim below fun aged => ?_
    exact Bool.noConfusion (aged.symm.trans fresh)

/-! ## SET-LOG, FETCH-LOG and the age timer -/

@[simp] theorem policyOf_toNat_code (p : Policy) : policyOf p.code.toNat = some p := by
  cases p <;> rfl

section SetLog

variable {p : Policy} {lo hi age : Byte} {s : State}
  (trigger : nat16 lo hi = 128 ∨ nat16 lo hi = 256 ∨ nat16 lo hi = 512 ∨ nat16 lo hi = 896) (positive : 1 ≤ age.toNat)

include trigger positive

/-- A SET-LOG in range is decided by the cell when it changes the policy (R147). -/
theorem setLogCmd_in_range : setLogCmd [p.code, lo, hi, age] s =
    if p ≠ s.log.policy ∧ s.control.cell ≠ .stopped then .refused .wrongState []
    else .answers (syncLog { s with log := s.log.setLog p (nat16 lo hi) age.toNat })
      (u16 s.log.overwritten ++ u16 s.log.records.length ++ u16 s.log.reserved) := by
  have isOne : isTrigger (nat16 lo hi) = true := by
    simp only [isTrigger, Bool.or_eq_true, beq_iff_eq, or_assoc]
    exact trigger
  have inRange : ¬(isTrigger (nat16 lo hi) = false ∨ age.toNat = 0) := fun out =>
    out.elim (fun notOne => Bool.noConfusion (isOne.symm.trans notOne)) (Nat.ne_of_gt positive)
  simp only [setLogCmd, readSetLog, policyOf_toNat_code, if_neg inRange]

end SetLog

theorem fetchLogCmd_in_range {n : Byte} (low : 1 ≤ n.toNat) (high : n.toNat ≤ 4) (s : State) :
    fetchLogCmd [n] s = .acts (syncLog { s with log := s.log.fetch n.toNat }) (s.log.fetched n.toNat) := by
  simp only [fetchLogCmd, readOne, low, high, and_self, if_true]

/-- The log after a FETCH-LOG, and its age timer by the records left (R149, R150). -/
theorem Log.fetch_eq (n : Nat) (l : Log) : l.fetch n = { l with
    records := l.records.drop n, aged := false
    ageTimer := if 1 ≤ l.records.length - n ∧ l.records.length - n < l.trigger then some (1000 * l.ageTimeout)
      else none } := by
  simp only [Log.fetch, Log.freshAge, List.length_drop]
  rfl

theorem Log.fetched_eq (n : Nat) (l : Log) : l.fetched n =
    u8 (min n l.records.length) :: u16 (l.records.length - n) ++ u16 l.reserved ++
      (l.records.take n).flatMap Placement.bytes := by
  rw [Log.fetched, Log.fetch_eq, List.length_take, List.length_drop]

/-- Settles O43: the two commands in range and the timer's expiry. -/
theorem logCommands : Obligations.LogCommands := by
  refine fun tag s on => ⟨fun p lo hi age trigger positive => ⟨fun allowed => ?set, fun changes moving => ?refused⟩,
    fun n low high => ?fetch, fun running => ?expiry, fun stopped => ?noExpiry⟩
  case set =>
    have may : ¬(p ≠ s.log.policy ∧ s.control.cell ≠ .stopped) := fun ⟨changes, moving⟩ => allowed.elim changes moving
    exact live_answers on ((setLogCmd_in_range trigger positive).trans (if_neg may))
  case refused => exact live_refused on ((setLogCmd_in_range trigger positive).trans (if_pos ⟨changes, moving⟩))
  case fetch =>
    have fetched := fetchLogCmd_in_range low high s
    rw [Log.fetch_eq, Log.fetched_eq] at fetched
    exact live_acts on fetched
  case expiry =>
    have event : exec .ageTimerExpiry s = .next (ageTimerExpiryEvent s) := live_on on
    rw [event, ageTimerExpiryEvent, if_pos running]
  case noExpiry =>
    have event : exec .ageTimerExpiry s = .next (ageTimerExpiryEvent s) := live_on on
    rw [event, ageTimerExpiryEvent, stopped, if_neg (by simp)]

end Sys2Proof.Machine

/-! The lanes' settings, the force monitors and the steps of a nest (LaneCommands, ForceCommands, Conversions,
NestSteps). -/

namespace Sys2Proof.Machine

@[simp] theorem laneOf_toNat_u8_laneNumber (n : Lane) : laneOf (u8 (laneNumber n)).toNat = some n := by
  cases n <;> rfl

@[simp] theorem gainOf_toNat_code (g : Gain) : gainOf g.code.toNat = some g := by
  cases g <;> rfl

/-! ## Lane masks -/

theorem laneMask_isEmpty_of_named {m : Byte} (named : m.toNat.testBit 0 = true ∨ m.toNat.testBit 1 = true) :
    (laneMask m).isEmpty = false := by
  simp only [LaneMask.isEmpty, laneMask]
  rcases named with one | two
  · rw [one]
    rfl
  · rw [two, Bool.not_true, Bool.and_false]

/-- Rewriting the lanes of a mask rewrites each lane of it, and no other. -/
theorem LaneMask.each_updLane (m : LaneMask) (f : LaneRec → LaneRec) (s : State) :
    m.each (fun n => State.updLane n f) s = { s with
      lanes := ⟨if m.one then f s.lanes.one else s.lanes.one, if m.two then f s.lanes.two else s.lanes.two⟩ } := by
  obtain ⟨one, two⟩ := m
  cases one <;> cases two <;> rfl

theorem LaneMask.each_updMonitor (m : LaneMask) (f : Monitor → Monitor) (s : State) :
    m.each (fun n => State.updMonitor n f) s = { s with
      monitors := ⟨if m.one then f s.monitors.one else s.monitors.one,
        if m.two then f s.monitors.two else s.monitors.two⟩ } := by
  obtain ⟨one, two⟩ := m
  cases one <;> cases two <;> rfl

/-! ## SET-LANE, READ-LANE and RESTORE-LANE -/

/-- The lanes after a SET-LANE (R122). -/
def State.setLanes (m : LaneMask) (e : Bool) (settle threshold : Nat) (s : State) : State :=
  m.each (fun n => State.updLane n fun r => { r with settle := settle, threshold := threshold, enable := e }) s

theorem setLaneCmd_accepted {m i t : Byte} {e : Bool} (low : 1 ≤ t.toNat) (high : t.toNat ≤ 63)
    (named : m.toNat.testBit 0 = true ∨ m.toNat.testBit 1 = true) (s : State) :
    setLaneCmd [m, i, t, flag e] s = .acts (s.setLanes (laneMask m) e i.toNat t.toNat)
      ((laneMask m).bytes fun n => flag ((s.setLanes (laneMask m) e i.toNat t.toNat).usable n)) := by
  simp only [setLaneCmd, readSetLane, laneMask_isEmpty_of_named named, flagOf_flag, low, high, and_self, if_true,
    Bool.false_eq_true, if_false]
  rfl

theorem readLaneCmd_number (n : Lane) (s : State) : readLaneCmd [u8 (laneNumber n)] s =
    .answers (s.updLane n fun r => { r with offsetFailures := 0 }) (s.laneResults n) := by
  simp only [readLaneCmd, readOne, laneOf_toNat_u8_laneNumber]

theorem restoreLaneCmd_number (n : Lane) (s : State) : restoreLaneCmd [u8 (laneNumber n)] s =
    .acts (s.updLane n fun r => { r with degraded := false, offsetFailures := 0 }) [flag (s.lanes.get n).degraded] := by
  simp only [restoreLaneCmd, readOne, laneOf_toNat_u8_laneNumber]

/-- Settles O35: SET-LANE lane by lane, then the two commands on one lane. -/
theorem laneCommands : Obligations.LaneCommands := by
  refine fun tag s on => ⟨fun m i t e low high named => ?set, fun n => live_answers on (readLaneCmd_number n s),
    fun n => live_acts on (restoreLaneCmd_number n s)⟩
  have lanes := LaneMask.each_updLane (laneMask m) (fun r =>
    { r with settle := i.toNat, threshold := t.toNat, enable := e }) s
  refine ⟨_, _, live_acts on (setLaneCmd_accepted low high named s), ?frame, ?one, ?two, rfl⟩
  case frame => rw [State.setLanes, lanes]
  case one =>
    rw [State.setLanes, lanes]
    rfl
  case two =>
    rw [State.setLanes, lanes]
    rfl

/-! ## SET-FORCE and READ-FORCE -/

theorem setForceCmd_accepted {m : Byte} (e : Bool) (g : Gain)
    (named : m.toNat.testBit 0 = true ∨ m.toNat.testBit 1 = true) (s : State) :
    setForceCmd [m, flag e, g.code] s = .answers
      ((laneMask m).each (fun n => State.updMonitor n (Monitor.setForce e g)) s)
      ((laneMask m).bytes fun n => flag (s.monitors.get n).spoils) := by
  simp only [setForceCmd, readSetForce, laneMask_isEmpty_of_named named, flagOf_flag, gainOf_toNat_code,
    Bool.false_eq_true, if_false]

theorem readForceCmd_number (n : Lane) (s : State) : readForceCmd [u8 (laneNumber n)] s =
    .answers (s.updMonitor n fun m => { m with fresh := false }) (s.monitors.get n).results := by
  simp only [readForceCmd, readOne, laneOf_toNat_u8_laneNumber]

theorem Monitor.spoils_eq (m : Monitor) : m.spoils = (decide (m.state = .dwell) || decide (m.state = .unwatched)) := by
  unfold Monitor.spoils
  cases m.state <;> rfl

/-- A monitor after a SET-FORCE, its sample kept just while it is enabled (R132, R138). -/
theorem Monitor.setForce_eq (e : Bool) (g : Gain) (m : Monitor) : m.setForce e g =
    (let latest := if e then m.latest else none
     let fresh := if e then m.fresh else false
     match m.state with
     | .dwell | .unwatched => { m with enable := e, gain := g, state := .spoiled, latest := latest, fresh := fresh }
     | .spoiled => { m with enable := e, gain := g, latest := latest, fresh := fresh }
     | .idle =>
       if m.enable = e ∧ m.gain = g then m else { m with enable := e, gain := g, latest := none, fresh := false }) := by
  unfold Monitor.setForce Monitor.silent
  cases m.state <;> cases e <;> rfl

/-- Settles O41: SET-FORCE monitor by monitor, then READ-FORCE. -/
theorem forceCommands : Obligations.ForceCommands := by
  refine fun tag s on => ⟨fun m e g named => ?set, fun n => live_answers on (readForceCmd_number n s)⟩
  have accepted := setForceCmd_accepted e g named s
  rw [LaneMask.each_updMonitor, Monitor.setForce_eq, Monitor.setForce_eq] at accepted
  simp only [Monitor.spoils_eq] at accepted
  cases g <;> exact live_answers on accepted

/-! ## Conversions -/

theorem updMonitor_of_unchanged {n : Lane} {f : Monitor → Monitor} {s : State}
    (unchanged : f (s.monitors.get n) = s.monitors.get n) : s.updMonitor n f = s := by
  rw [State.updMonitor, unchanged, PerLane.set_get_self]

theorem Monitor.idleSample_other {m : Monitor} (x : Nat) (other : m.enable = false ∨ m.state ≠ .idle) :
    m.idleSample x = m :=
  if_neg fun ⟨enabled, idle⟩ => other.elim (fun off => Bool.noConfusion (enabled.symm.trans off)) (absurd idle)

theorem Monitor.dwellSample_other {m : Monitor} (x : Nat) (other : m.enable = false ∨ m.state ≠ .dwell) :
    m.dwellSample x = m :=
  if_neg fun ⟨enabled, dwell⟩ => other.elim (fun off => Bool.noConfusion (enabled.symm.trans off)) (absurd dwell)

theorem Monitor.idleSample_idle {m : Monitor} (x : Nat) (enabled : m.enable = true) (idle : m.state = .idle) :
    m.idleSample x = { m with latest := some x, fresh := true } :=
  if_pos ⟨enabled, idle⟩

theorem Monitor.dwellSample_dwell {m : Monitor} (x : Nat) (enabled : m.enable = true) (dwell : m.state = .dwell) :
    m.dwellSample x = { m with
      count := min 65535 (m.count + 1)
      dwellMin := some (match m.dwellMin with | none => x - m.tare | some v => min v (x - m.tare))
      dwellMax := some (match m.dwellMax with | none => x - m.tare | some v => max v (x - m.tare)) } := by
  rw [Monitor.dwellSample, if_pos ⟨enabled, dwell⟩]
  cases m.dwellMin <;> cases m.dwellMax <;> rfl

/-- Settles O42: what the monitor's enable and state make of a conversion. -/
theorem conversions : Obligations.Conversions := by
  intro n counts s on
  have idle : exec (.idleConversion n counts) s =
      .next (s.updMonitor n (Monitor.idleSample (sample counts))) := live_on on
  have dwell : exec (.dwellConversion n counts) s =
      .next (s.updMonitor n (Monitor.dwellSample (sample counts))) := live_on on
  rw [idle, dwell]
  refine ⟨fun enabled isIdle => ?_, fun enabled isDwell => ?_, fun other => ?_, fun other => ?_⟩
  · rw [State.updMonitor, Monitor.idleSample_idle _ enabled isIdle]
    rfl
  · rw [State.updMonitor, Monitor.dwellSample_dwell _ enabled isDwell]
    rfl
  · rw [updMonitor_of_unchanged (Monitor.idleSample_other _ other)]
  · rw [updMonitor_of_unchanged (Monitor.dwellSample_other _ other)]

end Sys2Proof.Machine

/-! The nest's steps and the reports of a bond (NestSteps, TakenAndTouched). -/

namespace Sys2Proof.Machine

/-! ## The nest's steps (R108, R109, R111) -/

section NestSteps

variable {n : Lane} {s : State}

theorem settleExpiryEvent_of_running (settling : (s.lanes.get n).nest = .settling)
    (timed : (s.lanes.get n).settleTimer.isSome = true) (moving : s.control.cell ≠ .stopping) :
    settleExpiryEvent n s = closeEvent s (s.updLane n fun r => { r with nest := .ready, settleTimer := none }) :=
  if_pos ⟨settling, timed, moving⟩

theorem settleExpiryEvent_of_other (other : (s.lanes.get n).nest ≠ .settling ∨ s.control.cell = .stopping) :
    settleExpiryEvent n s = s :=
  if_neg fun ⟨settling, _, moving⟩ => other.elim (absurd settling) fun stopping => moving stopping

theorem takeDue_of_due (ready : (s.lanes.get n).nest = .ready) (idle : (s.lanes.get n).collet = .idle)
    (going : s.control.cell = .running ∨ s.control.cell = .holding) (free : s.linkFree (bonderLink n) = true) :
    takeDue n s = sendOrder (bonderLink n) .take [] (s.updLane n fun r => { r with collet := .taking }) :=
  if_pos ⟨ready, idle, going, free⟩

theorem takeDue_of_not_going (resting : ¬(s.control.cell = .running ∨ s.control.cell = .holding)) : takeDue n s = s :=
  if_neg fun ⟨_, _, going, _⟩ => resting going

theorem State.nestToPurge_iff : s.nestToPurge n = true ↔ (s.lanes.get n).nest = .blocked ∨
    ((s.lanes.get n).nest = .settling ∨ (s.lanes.get n).nest = .ready) ∧ s.control.cell = .stopping := by
  unfold State.nestToPurge
  cases (s.lanes.get n).nest <;> simp

theorem nestPurgeDue_of_due (wanted : s.nestToPurge n = true) (idle : (s.lanes.get n).collet = .idle)
    (free : s.linkFree (bonderLink n) = true) :
    nestPurgeDue n s = sendOrder (bonderLink n) .purge [PurgeSource.nest.code] (s.updLane n fun r =>
      { r with nest := .blocked, settleTimer := none, collet := .purging, purge := some .nest }) :=
  if_pos ⟨wanted, idle, free⟩

end NestSteps

/-- Settles O36: each step by its own conditions. -/
theorem nestSteps : Obligations.NestSteps := by
  intro n s on
  have expiry : exec (.settleExpiry n) s = .next (settleExpiryEvent n s) := live_on on
  have take : exec (.take n) s = .next (takeDue n s) := live_on on
  have purge : exec (.nestPurge n) s = .next (nestPurgeDue n s) := live_on on
  rw [expiry, take, purge]
  refine ⟨fun settling timed moving => ?settled, fun other => ?unsettled,
    fun up free idle => ⟨fun ready going => ?take, fun wanted => ?purge⟩, fun stopping => ?noTake⟩
  case settled =>
    rw [settleExpiryEvent_of_running settling timed moving]
    rfl
  case unsettled => rw [settleExpiryEvent_of_other other]
  case take =>
    rw [takeDue_of_due ready idle going (linkFree_iff.2 ⟨up, free⟩)]
    rfl
  case purge =>
    rw [nestPurgeDue_of_due (State.nestToPurge_iff.2 wanted) idle (linkFree_iff.2 ⟨up, free⟩)]
    rfl
  case noTake =>
    have resting : ¬(s.control.cell = .running ∨ s.control.cell = .holding) := by
      rw [stopping]
      exact fun going => going.elim nofun nofun
    rw [takeDue_of_not_going resting]

/-! ## Reports of a bonder -/

/-- The later of two updates of one lane acts on what the earlier one left. -/
theorem updLane_updLane (n : Lane) (f g : LaneRec → LaneRec) (s : State) :
    (s.updLane n f).updLane n g = s.updLane n (g ∘ f) := by
  cases n <;> rfl

/-- A report on a bonder link is taken by that bonder's lane (R110). -/
theorem bonderReport_bonderLink (n : Lane) (number : Byte) (fits : Lane → OrderKind → State → Bool)
    (f : Lane → State → State) (s : State) : bonderReport (bonderLink n) number fits f s =
      takeReport (bonderLink n) number (fun k => fits n k s) (f n) s := by
  cases n <;> rfl

/-- A report of a bonder that answers its order (R110, R175). -/
theorem live_bonderReport {n : Lane} {k : OrderKind} {number : Byte} {fits : Lane → OrderKind → State → Bool}
    {f : Lane → State → State} {s : State} (on : s.powered = true) (awaited : s.awaits (bonderLink n) k number)
    (fit : fits n k s = true) : live (bonderReport (bonderLink n) number fits f) s = .next (f n s) := by
  rw [live_on on, bonderReport_bonderLink, takeReport_of_awaits _ awaited fit]

section Taken

variable {n : Lane} {t : Token} {s : State}

theorem State.bondSource_of_no_dest (dest : t.dest = none) : s.bondSource t = none := by
  simp only [State.bondSource, dest]

theorem State.bondSource_of_dest {d : Dest} {u : StripUnit} {p : Position} {r : Recipe} (dest : t.dest = some d)
    (unit : s.unit d.unit = some u) (position : u.position d.pos = some p)
    (active : s.recipes.active.get t.dieType = some r) : s.bondSource t = some ⟨d, u, p, r⟩ := by
  simp only [State.bondSource, dest, active, unit, position, Option.map_some]

/-- A die taken that has no destination left is purged (R112). -/
theorem takenEffect_purged (held : s.tokenAt (.nest n) = some t) (noSource : s.bondSource t = none) :
    takenEffect n s = sendOrder (bonderLink n) .purge [0] ((moveToken t (.collet n) s).updLane n fun r =>
      { r with
        nest := .empty, settleTimer := none, collet := .purging, purge := some .collet, abort := none }) := by
  have source : ((moveToken t (.collet n) s).updLane n fun r =>
      { r with nest := .empty, settleTimer := none }).bondSource t = none := noSource
  simp only [takenEffect, held, source, purgeCollet, updLane_updLane]
  rfl

/-- A die taken whose destination stands is bonded there (R112, R113). -/
theorem takenEffect_bonded {b : BondSource} (held : s.tokenAt (.nest n) = some t) (source : s.bondSource t = some b) :
    takenEffect n s = sendBond n t b.dest b.unit b.position b.recipe
      ((moveToken t (.collet n) s).updLane n fun r => { r with nest := .empty, settleTimer := none }) := by
  have sourceThen : ((moveToken t (.collet n) s).updLane n fun r =>
      { r with nest := .empty, settleTimer := none }).bondSource t = some b := source
  simp only [takenEffect, held, sourceThen]

end Taken

/-- Settles O37: the die's source decides a TAKEN; a TOUCHED opens the dwell. -/
theorem takenAndTouched : Obligations.TakenAndTouched := by
  refine ⟨fun n k t s on awaited taking held => ?taken, fun n k s on awaited bonding => ?touched⟩
  case taken =>
    have event : exec (.taken (bonderLink n) k) s =
        .next (closeEvent s (takenEffect n (endOrder (bonderLink n) s))) :=
      live_bonderReport on awaited (by rw [decide_eq_true taking, held]; rfl)
    rw [event]
    refine ⟨fun dest => ?purged, fun d u p r dest unit position active => ?bonded⟩
    case purged =>
      rw [takenEffect_purged (s := endOrder (bonderLink n) s) held (State.bondSource_of_no_dest dest)]
      rfl
    case bonded =>
      rw [takenEffect_bonded (s := endOrder (bonderLink n) s) held
        (State.bondSource_of_dest (s := endOrder (bonderLink n) s) dest unit position active)]
      cases n <;> rfl
  case touched =>
    have event : exec (.touched (bonderLink n) k) s = .next (closeEvent s (touchedEffect n s)) :=
      live_bonderReport on awaited (by rw [decide_eq_true bonding]; rfl)
    rw [event]
    rfl

end Sys2Proof.Machine

/-! What a bond's end makes of the die, its position and its unit (BondedSettlesTheDie). -/

namespace Sys2Proof.Machine

/-! ## The position a die was bonded to (R89, R115, R116) -/

theorem modify_eq_set_of_getElem? {α : Type} {l : List α} {i : Nat} {x : α} (here : l[i]? = some x) (f : α → α) :
    l.modify i f = l.set i (f x) := by
  refine List.ext_getElem? fun j => ?_
  rw [List.getElem?_modify, List.getElem?_set]
  obtain ⟨inside, rfl⟩ := List.getElem?_eq_some_iff.1 here
  by_cases same : i = j
  · subst same
    simp [inside]
  · simp [same]

section Settle

variable {t : Token} {st : PosState} {s : State} {d : Dest} {u : StripUnit} {p : Position}

theorem settlePosition_of_no_dest (dest : t.dest = none) : settlePosition t st s = s := by
  simp only [settlePosition, dest]

theorem State.destState_eq (unit : s.unit d.unit = some u) (position : u.position d.pos = some p) :
    s.destState d = some p.state := by
  rw [State.destState, unit, Option.bind_some, position, Option.map_some]

theorem settlePosition_of_allocated (dest : t.dest = some d) (unit : s.unit d.unit = some u)
    (position : u.position d.pos = some p) (allocated : p.state = .allocated) : settlePosition t st s =
      { s with strip := { s.strip with units := s.strip.units.set d.unit (u.setPosition d.pos st) } } := by
  have state : s.destState d = some .allocated := by rw [State.destState_eq unit position, allocated]
  simp only [settlePosition, dest, state, if_true, State.updUnit]
  rw [modify_eq_set_of_getElem? unit]

theorem settlePosition_of_not_allocated (dest : t.dest = some d) (unit : s.unit d.unit = some u)
    (position : u.position d.pos = some p) (other : p.state ≠ .allocated) : settlePosition t st s = s := by
  have state : s.destState d ≠ some .allocated := by
    rw [State.destState_eq unit position]
    exact fun same => other (Option.some.inj same)
  simp only [settlePosition, dest, state, if_false]

end Settle

/-! ## Stacked positions (R76) -/

/-- The states in which a base is lost to what is stacked on it (R76). -/
def PosState.lost (x : PosState) : Prop := x = .suspect ∨ x = .uncertain ∨ x = .abandoned

/-- A position's base, by the list it stands in, is lost. -/
def Position.baseLost (p : Position) (l : List Position) : Prop :=
  ∃ b q, p.stackOn = some b ∧ l[b - 1]? = some q ∧ q.state.lost

/-- The test `abandonStacked` makes of a position's base. -/
def Position.losesBase (p : Position) (l : List Position) : Bool :=
  (p.stackOn.bind fun b => l[b - 1]?).any fun q =>
    decide (q.state = .suspect) || decide (q.state = .uncertain) || decide (q.state = .abandoned)

theorem Position.losesBase_iff {p : Position} {l : List Position} : p.losesBase l = true ↔ p.baseLost l := by
  simp only [Position.losesBase, Option.any_eq_true, Option.bind_eq_some_iff, Bool.or_eq_true, decide_eq_true_iff,
    Position.baseLost, PosState.lost, or_assoc]
  constructor
  · rintro ⟨q, ⟨b, stacked, base⟩, lost⟩
    exact ⟨b, q, stacked, base, lost⟩
  · rintro ⟨b, q, stacked, base, lost⟩
    exact ⟨q, ⟨b, stacked, base⟩, lost⟩

/-- What the abandoning of stacks makes of one position. -/
def Position.abandonedOn (p : Position) (l : List Position) : Position :=
  if decide (p.state = .empty) && p.losesBase l then { p with state := .abandoned } else p

theorem abandonStacked_cons (done rest : List Position) (p : Position) :
    abandonStacked done (p :: rest) = abandonStacked (done ++ [p.abandonedOn done]) rest := rfl

/-- What stands before is kept, and one position follows for each of the rest. -/
theorem abandonStacked_eq_append (done rest : List Position) :
    ∃ tail, abandonStacked done rest = done ++ tail ∧ tail.length = rest.length := by
  induction rest generalizing done with
  | nil => exact ⟨[], (List.append_nil done).symm, rfl⟩
  | cons p rest ih =>
    obtain ⟨tail, split, length⟩ := ih (done ++ [p.abandonedOn done])
    refine ⟨p.abandonedOn done :: tail, ?_, by rw [List.length_cons, List.length_cons, length]⟩
    rw [abandonStacked_cons, split, List.append_assoc]
    rfl

theorem length_abandonStacked (done rest : List Position) :
    (abandonStacked done rest).length = done.length + rest.length := by
  obtain ⟨tail, split, length⟩ := abandonStacked_eq_append done rest
  rw [split, List.length_append, length]

/-- A position looks at bases before it alone, so it may be judged in the whole list. -/
theorem Position.abandonedOn_append {p : Position} {done tail : List Position}
    (below : ∀ b, p.stackOn = some b → 1 ≤ b ∧ b ≤ done.length) :
    p.abandonedOn (done ++ tail) = p.abandonedOn done := by
  have same : p.baseLost (done ++ tail) ↔ p.baseLost done := by
    constructor
    · rintro ⟨b, q, stacked, base, lost⟩
      obtain ⟨positive, inside⟩ := below b stacked
      rw [List.getElem?_append_left (by omega)] at base
      exact ⟨b, q, stacked, base, lost⟩
    · rintro ⟨b, q, stacked, base, lost⟩
      obtain ⟨positive, inside⟩ := below b stacked
      exact ⟨b, q, stacked, by rw [List.getElem?_append_left (by omega)]; exact base, lost⟩
  have test : p.losesBase (done ++ tail) = p.losesBase done := by
    rw [Bool.eq_iff_iff, Position.losesBase_iff, Position.losesBase_iff, same]
  rw [Position.abandonedOn, test, ← Position.abandonedOn]

/-- Each position is abandoned when it is EMPTY on a base that the pass leaves lost (R76). -/
theorem getElem?_abandonStacked {done rest : List Position} {i : Nat} {p : Position} (here : rest[i]? = some p)
    (below : ∀ b, p.stackOn = some b → 1 ≤ b ∧ b ≤ done.length + i) :
    (abandonStacked done rest)[done.length + i]? = some (p.abandonedOn (abandonStacked done rest)) := by
  induction rest generalizing done i with
  | nil => cases here
  | cons first rest ih =>
    rw [abandonStacked_cons]
    cases i with
    | zero =>
      cases here
      obtain ⟨tail, split, -⟩ := abandonStacked_eq_append (done ++ [p.abandonedOn done]) rest
      rw [split, List.append_assoc, Position.abandonedOn_append below, List.getElem?_append_right (by omega)]
      simp
    | succ i =>
      have length : (done ++ [first.abandonedOn done]).length + i = done.length + (i + 1) := by
        rw [List.length_append, List.length_singleton]
        omega
      rw [← length]
      exact ih here (by rw [length]; exact below)

theorem Position.abandonedOn_of_lost {p : Position} {l : List Position} (empty : p.state = .empty)
    (lost : p.baseLost l) : p.abandonedOn l = { p with state := .abandoned } := by
  rw [Position.abandonedOn, decide_eq_true empty, Position.losesBase_iff.2 lost]
  rfl

theorem Position.abandonedOn_of_kept {p : Position} {l : List Position} (kept : p.state ≠ .empty ∨ ¬p.baseLost l) :
    p.abandonedOn l = p := by
  refine if_neg fun h => ?_
  rw [Bool.and_eq_true, decide_eq_true_iff, Position.losesBase_iff] at h
  exact kept.elim (absurd h.1) (absurd h.2)

/-! ## The unit after a position's change (R76 to R78) -/

theorem StripUnit.settled_positions (u : StripUnit) : u.settled.positions = u.positions := by
  unfold StripUnit.settled
  repeat' split
  all_goals rfl

theorem StripUnit.settled_frame (u : StripUnit) :
    u.settled = { u with positions := u.positions, state := u.settled.state, group := u.settled.group } := by
  unfold StripUnit.settled
  repeat' split
  all_goals rfl

section Settled

variable {u : StripUnit}

theorem StripUnit.settled_of_not_assembling (other : u.state ≠ .assembling) : u.settled = u :=
  if_neg other

theorem StripUnit.settled_of_all_empty (assembling : u.state = .assembling)
    (empty : ∀ q ∈ u.positions, q.state = .empty) : u.settled = { u with state := .opened, group := none } := by
  have all : (u.positions.all fun p => decide (p.state = .empty)) = true := by
    simpa only [List.all_eq_true, decide_eq_true_iff] using empty
  rw [StripUnit.settled, if_pos assembling, if_pos all]

variable (assembling : u.state = .assembling) (begun : ∃ q ∈ u.positions, q.state ≠ .empty)

include assembling begun

/-- A unit with a position begun is settled by whether its positions are final (R78). -/
theorem StripUnit.settled_of_begun : u.settled =
    if (u.positions.all (·.state.final)) = true then
      { u with state := if (u.positions.all fun p => decide (p.state = .placed)) = true then .complete else .flawed }
    else u := by
  have notAll : ¬(u.positions.all fun p => decide (p.state = .empty)) = true := by
    rw [List.all_eq_true]
    obtain ⟨q, mem, begun⟩ := begun
    exact fun all => begun (of_decide_eq_true (all q mem))
  rw [StripUnit.settled, if_pos assembling, if_neg notAll]

theorem StripUnit.settled_group_of_begun : u.settled.group = u.group := by
  rw [StripUnit.settled_of_begun assembling begun]
  split <;> rfl

theorem StripUnit.settled_complete (placed : ∀ q ∈ u.positions, q.state = .placed) : u.settled.state = .complete := by
  have final : (u.positions.all (·.state.final)) = true := by
    rw [List.all_eq_true]
    intro q mem
    rw [placed q mem]
    rfl
  have all : (u.positions.all fun p => decide (p.state = .placed)) = true := by
    simpa only [List.all_eq_true, decide_eq_true_iff] using placed
  rw [StripUnit.settled_of_begun assembling begun, if_pos final, if_pos all]

theorem StripUnit.settled_flawed (final : ∀ q ∈ u.positions, q.state.final = true)
    (marred : ∃ q ∈ u.positions, q.state ≠ .placed) : u.settled.state = .flawed := by
  have notAll : ¬(u.positions.all fun p => decide (p.state = .placed)) = true := by
    rw [List.all_eq_true]
    obtain ⟨q, mem, marred⟩ := marred
    exact fun all => marred (of_decide_eq_true (all q mem))
  rw [StripUnit.settled_of_begun assembling begun, if_pos (List.all_eq_true.2 final), if_neg notAll]

theorem StripUnit.settled_assembling (open_ : ∃ q ∈ u.positions, ¬q.state.final = true) :
    u.settled.state = .assembling := by
  have notFinal : ¬(u.positions.all (·.state.final)) = true := by
    rw [List.all_eq_true]
    obtain ⟨q, mem, notFinal⟩ := open_
    exact fun all => notFinal (all q mem)
  rw [StripUnit.settled_of_begun assembling begun, if_neg notFinal, assembling]

end Settled

/-- The positions of a unit one of whose positions takes a state. -/
def StripUnit.restack (k : Nat) (st : PosState) (u : StripUnit) : List Position :=
  abandonStacked [] (u.positions.modify (k - 1) fun q => { q with state := st })

theorem StripUnit.setPosition_eq (k : Nat) (st : PosState) (u : StripUnit) :
    u.setPosition k st = { u with positions := u.restack k st }.settled := rfl

theorem StripUnit.setPosition_positions (k : Nat) (st : PosState) (u : StripUnit) :
    (u.setPosition k st).positions = u.restack k st :=
  StripUnit.settled_positions _

theorem StripUnit.length_restack (k : Nat) (st : PosState) (u : StripUnit) :
    (u.restack k st).length = u.positions.length := by
  rw [StripUnit.restack, length_abandonStacked, List.length_modify, List.length_nil, Nat.zero_add]

/-- One position after another's change: its own new state, or ABANDONED when its base is lost (R76). -/
theorem StripUnit.getElem?_restack {u : StripUnit} {k j : Nat} {st : PosState} {p : Position} (positive : 1 ≤ k)
    (here : u.positions[j]? = some p) (below : ∀ b, p.stackOn = some b → 1 ≤ b ∧ b ≤ j) :
    (u.restack k st)[j]? =
      some (Position.abandonedOn { p with state := if j + 1 = k then st else p.state } (u.restack k st)) := by
  have changed : (u.positions.modify (k - 1) fun q => { q with state := st })[j]? =
      some { p with state := if j + 1 = k then st else p.state } := by
    rw [List.getElem?_modify, here]
    by_cases own : j + 1 = k
    · simp [show k - 1 = j by omega, own]
    · simp [show k - 1 ≠ j by omega, own]
  have settled := getElem?_abandonStacked (done := []) changed (by simpa using below)
  rw [List.length_nil, Nat.zero_add] at settled
  exact settled

/-! ## BONDED -/

theorem State.bondEnd_eq {n : Lane} {t : Token} {r : Recipe} {c : BondContext} {s : State}
    (held : s.tokenAt (.collet n) = some t) (active : s.recipes.active.get t.dieType = some r)
    (context : (s.lanes.get n).bond = some c) : s.bondEnd n = some ⟨t, r, c⟩ := by
  simp only [State.bondEnd, held, context, active, Option.map_some]

theorem visionOf_seen (seen : Bool) : visionOf (if seen then 0 else 1) = some seen := by
  cases seen <;> rfl

/-- The effect of a BONDED with all it is judged by (R115, R116, R118). -/
theorem bondedEffect_eq {n : Lane} {e : BondEnd} {s : State} (judged : s.bondEnd n = some e) (dx dy rotation : Int)
    (seen : Bool) : bondedEffect n dx dy rotation seen s =
      (let b := bondFields e (s.monitors.get n) dx dy rotation seen
       let recorded := createRecord e.token .bonded (some n) (some e.context) (some b)
        (settlePosition e.token b.result.position (s.updMonitor n fun m => { m with state := .idle }))
       (removeToken e.token (if b.offsetFault then countOffsetFault n recorded else recorded)).updLane n colletIdle) := by
  simp only [bondedEffect, judged]

/-- Settles O38: the report's effect, the token's position, and the unit position by position. -/
theorem bondedSettlesTheDie : Obligations.BondedSettlesTheDie := by
  refine ⟨fun n k dx dy rot seen t r c s on awaited dwell held active context => ?bonded, fun t st s => ⟨?noDest, ?dest⟩,
    fun u k st positive stacked => ?unit⟩
  case bonded =>
    have judged := State.bondEnd_eq held active context
    have event : exec (.bonded (bonderLink n) k dx dy rot (if seen then 0 else 1)) s = .next (closeEvent s
        (bondedEffect n dx.toInt dy.toInt rot.toInt (decide (visionOf (if seen then 0 else 1) = some true))
          (endOrder (bonderLink n) s))) :=
      live_bonderReport on awaited (by rw [decide_eq_true dwell, visionOf_seen, judged]; rfl)
    have decided : decide (some seen = some true) = seen := by cases seen <;> rfl
    rw [event, visionOf_seen, decided, bondedEffect_eq (s := endOrder (bonderLink n) s) judged]
    rfl
  case noDest => exact settlePosition_of_no_dest
  case dest =>
    exact fun d u p dest unit position => ⟨settlePosition_of_not_allocated dest unit position,
      settlePosition_of_allocated dest unit position⟩
  case unit =>
    have positions := StripUnit.setPosition_positions k st u
    let changed : StripUnit := { u with positions := u.restack k st }
    intro v lost
    change v.positions = u.restack k st at positions
    rw [positions]
    refine ⟨StripUnit.length_restack k st u, fun j p here => ?_, ?frame, fun other => ?other, fun assembling =>
      ⟨fun empty => ?allEmpty, fun begun => ⟨?group, fun placed => ?complete, fun final marred => ?flawed,
        fun open_ => ?still⟩⟩⟩
    · have at_ := StripUnit.getElem?_restack (st := st) positive here fun b => stacked j b p here
      exact ⟨fun empty base => at_.trans (congrArg some (Position.abandonedOn_of_lost empty base)),
        fun kept => at_.trans (congrArg some (Position.abandonedOn_of_kept kept))⟩
    case frame => exact StripUnit.settled_frame changed
    case other =>
      have kept : v = changed := StripUnit.settled_of_not_assembling (u := changed) other
      rw [kept]
      exact ⟨rfl, rfl⟩
    case allEmpty =>
      have reopened : v = { changed with state := .opened, group := none } :=
        StripUnit.settled_of_all_empty (u := changed) assembling empty
      rw [reopened]
      exact ⟨rfl, rfl⟩
    case group => exact StripUnit.settled_group_of_begun (u := changed) assembling begun
    case complete => exact StripUnit.settled_complete (u := changed) assembling begun placed
    case flawed =>
      exact StripUnit.settled_flawed (u := changed) assembling begun
        (fun q mem => PosState.final_iff.2 (final q mem)) marred
    case still =>
      obtain ⟨q, mem, notFinal⟩ := open_
      exact StripUnit.settled_assembling (u := changed) assembling begun
        ⟨q, mem, fun final => notFinal (PosState.final_iff.1 final)⟩

end Sys2Proof.Machine

/-! The verdicts of a bond, the count of offset faults, and the purges and aborts of a bonder
(BondVerdictsAndTheFaultCount, PurgesAndAbortsOfABonder). -/

namespace Sys2Proof.Machine

/-! ## Verdicts (R115, R118, R136) -/

theorem offsetFault_iff {r : Recipe} {dx dy rot : Int} {seen : Bool} : offsetFault r dx dy rot seen = true ↔
    seen = false ∨ r.offsetLimit < dx.natAbs ∨ r.offsetLimit < dy.natAbs ∨ r.rotationLimit < rot.natAbs := by
  simp only [offsetFault, Bool.or_eq_true, Bool.not_eq_true', decide_eq_true_iff, or_assoc]

section Verdict

variable {m : Monitor}

theorem Monitor.verdict_unwatched (unwatched : m.state = .unwatched) (r : Recipe) : m.verdict r = .notMonitored := by
  rw [Monitor.verdict, unwatched]

theorem Monitor.verdict_spoiled (spoiled : m.state = .spoiled) (r : Recipe) : m.verdict r = .unmeasured := by
  rw [Monitor.verdict, spoiled]

theorem Monitor.verdict_uncounted (dwell : m.state = .dwell) (none : m.count = 0) (r : Recipe) :
    m.verdict r = .unmeasured := by
  rw [Monitor.verdict, dwell]
  exact if_pos none

/-- A dwell with a conversion is judged by its extremes (Table 7-3). -/
theorem Monitor.verdict_counted {lo hi : Nat} (dwell : m.state = .dwell) (counted : 0 < m.count)
    (low : m.dwellMin = some lo) (high : m.dwellMax = some hi) (r : Recipe) :
    m.verdict r = if lo < r.windowLow then .low else if r.windowHigh < hi then .high else .good := by
  simp only [Monitor.verdict, dwell, Nat.ne_of_gt counted, if_false, low, high, Option.any_some, decide_eq_true_iff]

end Verdict

theorem bondResult_placed_iff (v : ForceVerdict) : bondResult false v = .placed ↔ v = .good ∨ v = .notMonitored := by
  cases v <;> decide

section FaultCount

variable {n : Lane} {s : State}

theorem countOffsetFault_counted
    (kept : min 255 ((s.lanes.get n).offsetFailures + 1) < (s.lanes.get n).threshold ∨ (s.lanes.get n).degraded = true) :
    countOffsetFault n s =
      s.updLane n fun r => { r with offsetFailures := min 255 ((s.lanes.get n).offsetFailures + 1) } := by
  refine if_neg fun ⟨reached, sound⟩ => kept.elim (fun below => absurd reached (Nat.not_le.2 below)) fun degraded => ?_
  exact Bool.noConfusion (degraded.symm.trans sound)

theorem countOffsetFault_degraded
    (reached : (s.lanes.get n).threshold ≤ min 255 ((s.lanes.get n).offsetFailures + 1))
    (sound : (s.lanes.get n).degraded = false) : countOffsetFault n s = raise (.laneOut n .degraded)
      (s.updLane n fun r =>
        { r with offsetFailures := min 255 ((s.lanes.get n).offsetFailures + 1), degraded := true }) :=
  if_pos ⟨reached, sound⟩

end FaultCount

/-- Settles O39: the verdicts' tables, and the two ends of a count. -/
theorem bondVerdictsAndTheFaultCount : Obligations.BondVerdictsAndTheFaultCount :=
  ⟨⟨fun _ _ _ _ _ => offsetFault_iff, fun _ r _ _ => ⟨fun unwatched => Monitor.verdict_unwatched unwatched r,
      fun spoiled => Monitor.verdict_spoiled spoiled r, fun dwell none => Monitor.verdict_uncounted dwell none r,
      fun dwell counted low high => Monitor.verdict_counted dwell counted low high r⟩,
    fun _ => rfl, bondResult_placed_iff⟩,
    fun _ _ => ⟨countOffsetFault_counted, countOffsetFault_degraded⟩⟩

/-! ## PURGED and ABORTED on a bonder link (R109, R117, Table 6-7) -/

theorem purgeToken_empty {n : Lane} {p : Place} {s : State} (empty : s.tokenAt p = none) : purgeToken n p s = s := by
  simp only [purgeToken, empty]

theorem purgeToken_held {n : Lane} {p : Place} {t : Token} {s : State} (held : s.tokenAt p = some t) :
    purgeToken n p s = settleDie t .purged (some n) none none .empty s := by
  simp only [purgeToken, held]

section Purged

variable {n : Lane} {s : State}

theorem purgedEffect_nest (source : (s.lanes.get n).purge = some .nest) : purgedEffect n s =
    (purgeToken n (.nest n) s).updLane n fun r => { colletIdle r with nest := .empty, settleTimer := none } := by
  simp only [purgedEffect, source]

theorem purgedEffect_collet (source : (s.lanes.get n).purge = some .collet) :
    purgedEffect n s = (purgeToken n (.collet n) s).updLane n colletIdle := by
  simp only [purgedEffect, source]

theorem purgedEvent_bonderLink (n : Lane) (number : Byte) (s : State) : purgedEvent (bonderLink n) number s =
    bonderReport (bonderLink n) number
      (fun n k s => decide (k = .purge) && decide ((s.lanes.get n).collet = .purging))
      (fun m => completing (bonderLink n) (purgedEffect m)) s := by
  cases n <;> rfl

end Purged

section Aborted

variable {n : Lane} {s : State}

theorem abortedBonderEffect_taking_empty (origin : (s.lanes.get n).abort = some .taking) :
    abortedBonderEffect n false s = s.updLane n colletIdle := by
  simp only [abortedBonderEffect, origin, Bool.false_eq_true, if_false]

theorem abortedBonderEffect_taking_held {t : Token} (origin : (s.lanes.get n).abort = some .taking)
    (held : s.tokenAt (.nest n) = some t) : abortedBonderEffect n true s =
      purgeCollet n ((moveToken t (.collet n) s).updLane n fun r => { r with nest := .empty, settleTimer := none }) := by
  simp only [abortedBonderEffect, origin, if_true, held]

theorem abortedBonderEffect_bonding_held (origin : (s.lanes.get n).abort = some .bonding) :
    abortedBonderEffect n true s = purgeCollet n s := by
  simp only [abortedBonderEffect, origin, if_true]

theorem abortedBonderEffect_dwell_held (origin : (s.lanes.get n).abort = some .dwell) :
    abortedBonderEffect n true s = purgeCollet n (abandonDwell n s) := by
  simp only [abortedBonderEffect, origin, if_true]

theorem abortedBonderEffect_bonding_empty (origin : (s.lanes.get n).abort = some .bonding) :
    abortedBonderEffect n false s = loseBond n s := by
  simp only [abortedBonderEffect, origin, Bool.false_eq_true, if_false]

theorem abortedBonderEffect_dwell_empty (origin : (s.lanes.get n).abort = some .dwell) :
    abortedBonderEffect n false s = loseBond n (abandonDwell n s) := by
  simp only [abortedBonderEffect, origin, Bool.false_eq_true, if_false]

/-- A die that left the collet unreported is recorded UNKNOWN with its bond context (R124, R128). -/
theorem loseBond_held {t : Token} (held : s.tokenAt (.collet n) = some t) : loseBond n s =
    (settleDie t .unknown (some n) (s.lanes.get n).bond none .uncertain s).updLane n colletIdle := by
  simp only [loseBond, loseToken, held]

end Aborted

/-- Settles O40: the purge source and the abort origin decide the two reports. -/
theorem purgesAndAbortsOfABonder : Obligations.PurgesAndAbortsOfABonder := by
  refine ⟨fun n k s on awaited purging => ?purged, fun n k s on awaited aborting => ?aborted, fun _ => rfl,
    fun _ _ => rfl⟩
  case purged =>
    have event : exec (.purged (bonderLink n) k) s =
        .next (closeEvent s (purgedEffect n (endOrder (bonderLink n) s))) := by
      have row : exec (.purged (bonderLink n) k) s = .next (purgedEvent (bonderLink n) k s) := live_on on
      rw [row, purgedEvent_bonderLink, ← live_on on]
      exact live_bonderReport on awaited (by rw [decide_eq_true purging]; rfl)
    rw [event]
    refine ⟨fun source empty => ?_, fun t source held => ?_, fun t source held => ?_⟩
    · rw [purgedEffect_nest (s := endOrder (bonderLink n) s) source,
        purgeToken_empty (s := endOrder (bonderLink n) s) empty]
      rfl
    · rw [purgedEffect_nest (s := endOrder (bonderLink n) s) source,
        purgeToken_held (s := endOrder (bonderLink n) s) held]
    · rw [purgedEffect_collet (s := endOrder (bonderLink n) s) source,
        purgeToken_held (s := endOrder (bonderLink n) s) held]
  case aborted =>
    have empty : exec (.abortedBonder n k 0) s =
        .next (closeEvent s (abortedBonderEffect n false (endOrder (bonderLink n) s))) :=
      live_completing on awaited (by rw [decide_eq_true aborting]; rfl)
    have holds : exec (.abortedBonder n k 1) s =
        .next (closeEvent s (abortedBonderEffect n true (endOrder (bonderLink n) s))) :=
      live_completing on awaited (by rw [decide_eq_true aborting]; rfl)
    rw [empty, holds]
    intro e purge
    refine ⟨fun origin => ⟨?_, fun t held => ?_⟩, fun origin => ?_, fun origin => ?_, fun t held =>
      ⟨fun origin => ?_, fun origin => ?_⟩⟩
    · rw [abortedBonderEffect_taking_empty (s := e) origin]
    · rw [abortedBonderEffect_taking_held (s := e) origin held]
      rfl
    · rw [abortedBonderEffect_bonding_held (s := e) origin]
      rfl
    · rw [abortedBonderEffect_dwell_held (s := e) origin]
      rfl
    · rw [abortedBonderEffect_bonding_empty (s := e) origin, loseBond_held (s := e) held]
      rfl
    · rw [abortedBonderEffect_dwell_empty (s := e) origin, loseBond_held (s := abandonDwell n e) held]
      rfl

end Sys2Proof.Machine

/-! Late reports, and the cell at rest (LateReportsAreCounted, NothingComesAboutAtRest). -/

namespace Sys2Proof.Machine

/-! ## Reports matched by their number (R175) -/

/-- A report of the bonders is taken like any other, whatever link it comes on (R110). -/
theorem bonderReport_eq_takeReport (l : Link) (number : Byte) (fits : Lane → OrderKind → State → Bool)
    (f : Lane → State → State) (s : State) :
    ∃ fits' f', bonderReport l number fits f s = takeReport l number fits' f' s := by
  unfold bonderReport
  cases laneOfLink l with
  | none => exact ⟨_, _, rfl⟩
  | some n => exact ⟨_, _, rfl⟩

theorem purgedEvent_eq_takeReport (l : Link) (number : Byte) (s : State) :
    ∃ fits f, purgedEvent l number s = takeReport l number fits f s := by
  unfold purgedEvent
  split
  · exact ⟨_, _, rfl⟩
  · exact bonderReport_eq_takeReport _ _ _ _ _

/-- The row of a numbered report is the taking of the report. -/
theorem exec_of_numbered {c : Instr} {l : Link} {n : Byte} {s : State} (on : s.powered = true)
    (h : numbered c = some (l, n)) : ∃ fits f, exec c s = .next (takeReport l n fits f s) := by
  have bonder {g : State → State} {fits : Lane → OrderKind → State → Bool} {f : Lane → State → State}
      (row : exec c s = live g s) (event : g s = bonderReport l n fits f s) :
      ∃ fits f, exec c s = .next (takeReport l n fits f s) := by
    obtain ⟨fits', f', taken⟩ := bonderReport_eq_takeReport l n fits f s
    exact ⟨fits', f', by rw [row, live_on on, event, taken]⟩
  cases c <;> cases h
  case taken => exact bonder (g := takenEvent l n) rfl rfl
  case touched => exact bonder (g := touchedEvent l n) rfl rfl
  case bonded dx dy rotation vision => exact bonder (g := bondedEvent l n dx dy rotation vision) rfl rfl
  case purged =>
    obtain ⟨fits, f, taken⟩ := purgedEvent_eq_takeReport l n s
    exact ⟨fits, f, (live_on (f := purgedEvent l n) on).trans (congrArg _ taken)⟩
  all_goals exact ⟨_, _, live_on (f := takeReport _ n _ _) on⟩

theorem State.receives_iff {s : State} {l : Link} :
    s.receives l = true ↔ (s.links.get l).state ≠ .disabled ∧ (s.links.get l).breakTimer = none := by
  simp only [State.receives, Bool.and_eq_true, decide_eq_true_iff, Option.isNone_iff_eq_none]

/-- A report that does not carry the number of the outstanding order is late (R175). -/
theorem takeReport_late {s : State} {l : Link} {n : Byte} (received : s.receives l = true)
    (other : ∀ o, (s.links.get l).outstanding = some o → o.number ≠ n) (fits : OrderKind → Bool) (f : State → State) :
    takeReport l n fits f s = lateReport l s := by
  rw [takeReport, if_pos received]
  cases outstanding : (s.links.get l).outstanding with
  | none => rfl
  | some o => exact if_neg fun same => other o outstanding same.1

/-- Settles O53: a late report is counted by the taking of every numbered report. -/
theorem lateReportsAreCounted : Obligations.LateReportsAreCounted := by
  intro c l n s on report notDisabled noBreak other
  obtain ⟨fits, f, taken⟩ := exec_of_numbered on report
  rw [taken, takeReport_late (State.receives_iff.2 ⟨notDisabled, noBreak⟩) other]
  rfl

/-! ## The cell at rest -/

section AtRest

variable {s : State}

theorem stripDoneDue_of_not_active (notActive : s.strip.state ≠ .active) : stripDoneDue s = s :=
  stripDoneDue_of_not_finished fun finished => notActive finished.1

theorem ejectStripDue_of_not_running (resting : s.control.cell ≠ .running) : ejectStripDue s = s :=
  ejectStripDue_of_not_free fun ⟨running, _⟩ => resting running

theorem unloadDue_of_unwanted {k : Table} (unwanted : (s.tables.get k).unloadWanted = false) : unloadDue k s = s :=
  if_neg fun ⟨wanted, _⟩ => Bool.noConfusion (wanted.symm.trans unwanted)

theorem nestLostDue_of_not_stopping (n : Lane) (moving : s.control.cell ≠ .stopping) : nestLostDue n s = s :=
  if_neg fun ⟨stopping, _⟩ => moving stopping

theorem nestPurgeDue_of_unwanted {n : Lane} (moving : s.control.cell ≠ .stopping)
    (notBlocked : (s.lanes.get n).nest ≠ .blocked) : nestPurgeDue n s = s :=
  if_neg fun ⟨wanted, _⟩ =>
    (State.nestToPurge_iff.1 wanted).elim notBlocked fun ⟨_, stopping⟩ => moving stopping

theorem reassignDue_of_not_active (notActive : s.strip.state ≠ .active) : reassignDue s = s :=
  if_neg fun ⟨_, active, _⟩ => notActive active

theorem endWaitDue_of_not_waiting {n : Lane} (idle : (s.control.waits.get n).waiting = false) : endWaitDue n s = s :=
  if_neg fun ⟨waiting, _⟩ => Bool.noConfusion (waiting.symm.trans idle)

theorem heldDue_of_not_holding (other : s.control.cell ≠ .holding) : heldDue s = s :=
  if_neg fun ⟨holding, _⟩ => other holding

theorem stoppedDue_of_not_stopping (moving : s.control.cell ≠ .stopping) : stoppedDue s = s :=
  if_neg fun ⟨stopping, _⟩ => moving stopping

theorem autoHold_of_not_running (s0 : State) (resting : s.control.cell ≠ .running) : autoHold s0 s = s :=
  if_neg resting

/-- Outside RUNNING no lane requests, so no grant is made. -/
theorem State.chosenLane_of_not_running (resting : s.control.cell ≠ .running) : s.chosenLane = none := by
  have silent (n : Lane) : s.requests n = false :=
    Bool.eq_false_iff.2 fun asks => resting (State.requests_iff.1 asks).1
  simp only [State.chosenLane, silent]

theorem arbitrate_of_not_chosen (none : s.chosenLane = none) : arbitrate s = s := by
  simp only [arbitrate, none, ite_self]

theorem newWork_of_not_running (resting : s.control.cell ≠ .running) : newWork s = s := by
  rw [newWork, loadStripDue_of_not_running resting, arbitrate_of_not_chosen (State.chosenLane_of_not_running resting)]

end AtRest

/-- Settles O55: each of what could come about finds its condition unmet. -/
theorem nothingComesAboutAtRest : Obligations.NothingComesAboutAtRest := by
  intro s0 s stopped notActive unwantedA unwantedB clearOne clearTwo idleOne idleTwo
  have notRunning : s.control.cell ≠ .running := by rw [stopped]; decide
  have notHolding : s.control.cell ≠ .holding := by rw [stopped]; decide
  have notStopping : s.control.cell ≠ .stopping := by rw [stopped]; decide
  have notGoing : ¬(s.control.cell = .running ∨ s.control.cell = .holding) := fun going =>
    going.elim notRunning notHolding
  have owned : owners s = s := by
    rw [owners, stripDoneDue_of_not_active notActive, ejectStripDue_of_not_running notRunning,
      unloadDue_of_unwanted (k := .a) unwantedA, unloadDue_of_unwanted (k := .b) unwantedB,
      nestLostDue_of_not_stopping .one notStopping, nestLostDue_of_not_stopping .two notStopping,
      nestPurgeDue_of_unwanted (n := .one) notStopping clearOne, takeDue_of_not_going notGoing,
      nestPurgeDue_of_unwanted (n := .two) notStopping clearTwo, takeDue_of_not_going notGoing]
  have controlled : control s0 s = s := by
    rw [control, autoHold_of_not_running s0 notRunning, reassignDue_of_not_active notActive,
      endWaitDue_of_not_waiting (n := .one) idleOne, endWaitDue_of_not_waiting (n := .two) idleTwo,
      heldDue_of_not_holding notHolding, stoppedDue_of_not_stopping notStopping]
  rw [closeEvent, owned, controlled, newWork_of_not_running notRunning]

end Sys2Proof.Machine

/-! The entry of a link into UP, and the frames a station link counts (HelloBringsALinkUp, BadStationFramesAreCounted). -/

namespace Sys2Proof.Machine

/-! ## HELLO (R173, R180) -/

section Hello

variable {l : Link} {kind : Byte} {id : Text} {s : State}

theorem LinkRec.accepts_iff {r : LinkRec} :
    r.accepts id = true ↔ isText 8 id = true ∧ ∀ k, r.locked = some k → k = id := by
  simp only [LinkRec.accepts, Bool.and_eq_true, Option.all_eq_true, decide_eq_true_iff]

section Hunting

variable (noBreak : (s.links.get l).breakTimer = none) (hunting : (s.links.get l).state = .hunting)

include noBreak hunting

theorem receives_of_hunting : s.receives l = true :=
  State.receives_iff.2 ⟨by rw [hunting]; decide, noBreak⟩

theorem helloEvent_wrong_kind (wrong : kind ≠ stationKind l) : helloEvent l kind id s = linkFault l .wrongKind s := by
  simp only [helloEvent, receives_of_hunting noBreak hunting, hunting, wrong, ne_eq, not_false_eq_true, if_true]

theorem helloEvent_refused (right : kind = stationKind l) (refused : ¬(s.links.get l).accepts id = true) :
    helloEvent l kind id s = linkFault l .identity s := by
  simp only [helloEvent, receives_of_hunting noBreak hunting, hunting, right, ne_eq, not_true_eq_false, if_false,
    if_true, refused, Bool.false_eq_true]

theorem helloEvent_accepted (right : kind = stationKind l) (accepted : (s.links.get l).accepts id = true) :
    helloEvent l kind id s = closeEvent s (linkUp l (s.updLink l (LinkRec.greet id))) := by
  simp only [helloEvent, receives_of_hunting noBreak hunting, hunting, right, ne_eq, not_true_eq_false, if_false,
    if_true, accepted]

end Hunting

theorem helloEvent_up (noBreak : (s.links.get l).breakTimer = none) (up : (s.links.get l).state = .up) :
    helloEvent l kind id s = stationError l none s := by
  have received : s.receives l = true := State.receives_iff.2 ⟨by rw [up]; decide, noBreak⟩
  simp only [helloEvent, received, up, if_true]

theorem helloEvent_fault (noBreak : (s.links.get l).breakTimer = none) (faulted : (s.links.get l).state = .fault) :
    helloEvent l kind id s = lateReport l s := by
  have received : s.receives l = true := State.receives_iff.2 ⟨by rw [faulted]; decide, noBreak⟩
  simp only [helloEvent, received, faulted, if_true]

theorem helloEvent_deaf (deaf : ¬s.receives l = true) : helloEvent l kind id s = s := if_neg deaf

end Hello

/-- The entry into UP of a table's link that clears a flag on an OCCUPIED table with a MOUNTED slot (R43, R61). -/
def State.linkUpSelects (s : State) (k : Table) : Prop :=
  (s.tables.get k).faulted = true ∧ (s.tables.get k).state = .occupied ∧
    ∃ i, (s.tables.get k).slot = some i ∧ (s.slots.get i).state = .mounted

theorem linkUp_tableLink_eq (k : Table) (s : State) : linkUp (tableLink k) s =
    if (s.tables.get k).faulted ∧ (s.tables.get k).state = .occupied ∧
        (s.tables.get k).slot.any (fun i => decide ((s.slots.get i).state = .mounted)) then
      selectionChange (s.updTable k fun r => { r with faulted := false })
    else s.updTable k fun r => { r with faulted := false } := by
  cases k <;> rfl

theorem linkUp_tableLink_test_iff {s : State} {k : Table} : ((s.tables.get k).faulted ∧
    (s.tables.get k).state = .occupied ∧
      (s.tables.get k).slot.any (fun i => decide ((s.slots.get i).state = .mounted))) ↔ s.linkUpSelects k := by
  simp only [State.linkUpSelects, Option.any_eq_true, decide_eq_true_iff]

/-- Settles O50: HELLO by the link's state and what it carries, then the entry into UP. -/
theorem helloBringsALinkUp : Obligations.HelloBringsALinkUp := by
  refine ⟨fun l n kind id s on noBreak => ?hello, fun k s => ⟨fun selects => ?selects, fun keeps => ?keeps⟩,
    fun l s notA notB => ?other⟩
  case hello =>
    have event : exec (.hello l n kind id) s = .next (helloEvent l kind id s) := live_on on
    rw [event]
    refine ⟨fun hunting => ⟨fun wrong => ?wrongKind, fun right refused => ?refused, fun right printable unlocked => ?up⟩,
      fun up => ?isUp, fun faulted => ?faulted, fun disabled => ?disabled⟩
    case wrongKind => rw [helloEvent_wrong_kind noBreak hunting wrong]
    case refused =>
      rw [helloEvent_refused noBreak hunting right]
      rw [LinkRec.accepts_iff]
      rintro ⟨printable, unlocked⟩
      rcases refused with unprintable | ⟨k, locked, other⟩
      · exact Bool.noConfusion (printable.symm.trans unprintable)
      · exact other (unlocked k locked)
    case up =>
      rw [helloEvent_accepted noBreak hunting right (LinkRec.accepts_iff.2 ⟨printable, unlocked⟩)]
      rfl
    case isUp =>
      rw [helloEvent_up noBreak up]
      rfl
    case faulted =>
      rw [helloEvent_fault noBreak faulted]
      rfl
    case disabled => rw [helloEvent_deaf fun received => (State.receives_iff.1 received).1 disabled]
  case selects => exact (linkUp_tableLink_eq k s).trans (if_pos (linkUp_tableLink_test_iff.2 selects))
  case keeps => exact (linkUp_tableLink_eq k s).trans (if_neg ((not_congr linkUp_tableLink_test_iff).2 keeps))
  case other =>
    cases l with
    | ta => exact absurd rfl notA
    | tb => exact absurd rfl notB
    | _ => rfl

/-! ## Bad frames (R174) -/

theorem namesReport_iff {kind : Byte} : namesReport kind = true ↔ 64 ≤ kind.toNat ∧ kind.toNat ≤ 79 := by
  simp only [namesReport, Bool.and_eq_true, decide_eq_true_iff]

theorem frameBad_iff_kind {n kind check : Byte} {p : List Byte} : frameBad n kind p check = true ↔
    crc8 (n :: kind :: p) ≠ check ∨ kind.toNat < 64 ∨ 79 < kind.toNat := by
  rw [frameBad, Bool.or_eq_true, decide_eq_true_iff, Bool.not_eq_true', ← Bool.not_eq_true, namesReport_iff]
  have kinds : ¬(64 ≤ kind.toNat ∧ kind.toNat ≤ 79) ↔ kind.toNat < 64 ∨ 79 < kind.toNat := by omega
  rw [kinds]

section BadFrame

variable {l : Link} {s : State}

/-- The link's count after one more bad frame, stopping at 255 (R174). -/
def State.nextCrcCount (s : State) (l : Link) : Nat := min 255 ((s.links.get l).crcCount + 1)

theorem badFrame_counted
    (kept : (s.links.get l).state = .fault ∨ s.nextCrcCount l ≠ (s.links.get l).crcThreshold) :
    badFrame l s = s.updLink l fun r => { r with crcCount := s.nextCrcCount l } := by
  refine if_neg fun ⟨reached, alive⟩ => kept.elim (fun faulted => ?_) fun below => below reached
  rw [faulted] at alive
  exact alive.elim nofun nofun

theorem badFrame_faults (alive : (s.links.get l).state = .hunting ∨ (s.links.get l).state = .up)
    (reached : s.nextCrcCount l = (s.links.get l).crcThreshold) :
    badFrame l s = linkFault l .crcLimit (s.updLink l fun r => { r with crcCount := s.nextCrcCount l }) :=
  if_pos ⟨reached, alive⟩

theorem LinkRec.alive_of {r : LinkRec} (notDisabled : r.state ≠ .disabled) (notFault : r.state ≠ .fault) :
    r.state = .hunting ∨ r.state = .up := by
  cases h : r.state with
  | hunting => exact .inl rfl
  | up => exact .inr rfl
  | disabled => exact absurd h notDisabled
  | fault => exact absurd h notFault

end BadFrame

end Sys2Proof.Machine

/-! The bytes of a station frame read as its row, and the frames a link counts (BadStationFramesAreCounted). -/

namespace Sys2Proof.Machine

/-! ## Frames counted (R174) -/

section Counted

variable {l : Link} {n kind check : Byte} {p : List Byte} {s : State}

theorem frameDiscardEvent_bad (received : s.receives l = true) (bad : frameBad n kind p check = true) :
    frameDiscardEvent l n kind p check s = badFrame l s := if_pos ⟨received, bad⟩

theorem frameDiscardEvent_deaf (deaf : ¬s.receives l = true) : frameDiscardEvent l n kind p check s = s :=
  if_neg fun ⟨received, _⟩ => deaf received

theorem frameTimeoutEvent_received (received : s.receives l = true) : frameTimeoutEvent l s = badFrame l s :=
  if_pos received

theorem frameTimeoutEvent_deaf (deaf : ¬s.receives l = true) : frameTimeoutEvent l s = s := if_neg deaf

end Counted

/-! ## A whole frame read as its row (Tables 11-7 and 11-8) -/

section Reading

variable {l : Link} {n kind : Byte} {p : List Byte}

theorem readStationFrame_bad_kind (unnamed : kind.toNat < 64 ∨ 79 < kind.toNat) (check : Byte) :
    readStationFrame l (90 :: n :: kind :: p ++ [check]) = some (.stationFrameDiscard l n kind p check) := by
  have names : namesReport kind = false := by
    rw [← Bool.not_eq_true, namesReport_iff]
    omega
  simp only [readStationFrame, List.cons_append, List.getLast?_concat, List.dropLast_concat, names, ne_eq,
    not_true_eq_false, if_false, if_true]

theorem readStationFrame_report (names : namesReport kind = true) (check : Byte) :
    readStationFrame l (90 :: n :: kind :: p ++ [check]) = (reportRow l n kind p).map fun row =>
      if frameBad n kind p check then .stationFrameDiscard l n kind p check else row := by
  simp only [readStationFrame, List.cons_append, List.getLast?_concat, List.dropLast_concat, names, ne_eq,
    not_true_eq_false, if_false, Bool.true_eq_false]

/-- A frame of a kind that names a report is read as the report's row with the right check, and as its discard with
any other. -/
theorem readStationFrame_of_row {row : Instr} (names : namesReport kind = true) (read : reportRow l n kind p = some row) :
    readStationFrame l (90 :: n :: kind :: p ++ [crc8 (n :: kind :: p)]) = some row ∧
      ∀ check, check ≠ crc8 (n :: kind :: p) →
        readStationFrame l (90 :: n :: kind :: p ++ [check]) = some (.stationFrameDiscard l n kind p check) := by
  have bad_iff (check : Byte) : frameBad n kind p check = true ↔ crc8 (n :: kind :: p) ≠ check := by
    simp only [frameBad, names, Bool.not_true, Bool.or_false, decide_eq_true_iff]
  refine ⟨?_, fun check wrong => ?_⟩
  · rw [readStationFrame_report names, read, Option.map_some, if_neg fun bad => (bad_iff _).1 bad rfl]
  · rw [readStationFrame_report names, read, Option.map_some, if_pos ((bad_iff _).2 fun right => wrong right.symm)]

end Reading

/-- The two bytes of a word, least significant first, give the word back (R197). -/
theorem word16_u16_bytes (w : BitVec 16) :
    word16 (BitVec.ofNat 8 w.toNat) (BitVec.ofNat 8 (w.toNat / 256)) = w :=
  BitVec.eq_of_toNat_eq ((toNat_word16 _ _).trans (toNat_u16_bytes w.isLt))

theorem xoutPairs_flatMap (xouts : List (Byte × Byte)) : xoutPairs (xouts.flatMap fun x => [x.1, x.2]) = xouts := by
  induction xouts with
  | nil => rfl
  | cons x xs ih => exact congrArg (x :: ·) ih

theorem length_flatMap_pair (xouts : List (Byte × Byte)) :
    (xouts.flatMap fun x => [x.1, x.2]).length = 2 * xouts.length := by
  induction xouts with
  | nil => rfl
  | cons x xs ih =>
    rw [List.flatMap_cons, List.length_append, ih, List.length_cons, List.length_cons, List.length_cons, List.length_nil]
    omega

theorem bondedRow_bytes (l : Link) (n : Byte) (dx dy rotation : BitVec 16) (vision : Byte) :
    bondedRow l n (u16 dx.toNat ++ u16 dy.toNat ++ u16 rotation.toNat ++ [vision]) =
      some (.bonded l n dx dy rotation vision) := by
  simp only [u16, List.cons_append, List.nil_append, bondedRow, word16_u16_bytes]

theorem arrivedRow_bytes (l : Link) (n : Byte) {id : Text} (code count : Byte) (pitch : BitVec 16)
    {xouts : List (Byte × Byte)} (idLength : id.length = 12) (entries : xouts.length = 12) :
    arrivedRow l n (id ++ [code] ++ u16 pitch.toNat ++ [count] ++ xouts.flatMap fun x => [x.1, x.2]) =
      some (.arrived l n id code pitch count xouts) := by
  have bytes : (xouts.flatMap fun x => [x.1, x.2]).length = 24 := by rw [length_flatMap_pair, entries]
  simp only [arrivedRow, List.append_assoc, List.drop_left' idLength, List.take_left' idLength, u16, List.cons_append,
    List.nil_append, bytes, if_true, word16_u16_bytes, xoutPairs_flatMap]

theorem purgedRow_eq (l : Link) (n : Byte) : purgedRow l n = if l = .pk then .purgedOnPk n else .purged l n := by
  cases l <;> rfl

/-- Settles O51: the count of bad frames, then each kind's row by Table 11-8. -/
theorem badStationFramesAreCounted : Obligations.BadStationFramesAreCounted := by
  refine ⟨fun l n kind p check s on => ?counting, fun l n => ?reading⟩
  case counting =>
    have discard : exec (.stationFrameDiscard l n kind p check) s = .next (frameDiscardEvent l n kind p check s) :=
      live_on on
    have timeout : exec (.stationFrameTimeout l) s = .next (frameTimeoutEvent l s) := live_on on
    rw [discard, timeout]
    refine ⟨fun notDisabled noBreak bad => ?received, fun deaf => ?deaf⟩
    case received =>
      have received : s.receives l = true := State.receives_iff.2 ⟨notDisabled, noBreak⟩
      rw [frameDiscardEvent_bad received (frameBad_iff_kind.2 bad), frameTimeoutEvent_received received]
      refine ⟨fun kept => ?_, fun notFault reached => ?_⟩
      · rw [badFrame_counted kept]
        exact ⟨rfl, rfl⟩
      · rw [badFrame_faults (LinkRec.alive_of notDisabled notFault) reached]
        exact ⟨rfl, rfl⟩
    case deaf =>
      have unheard : ¬s.receives l = true := fun received => by
        obtain ⟨notDisabled, noBreak⟩ := State.receives_iff.1 received
        rw [noBreak] at deaf
        exact deaf.elim notDisabled nofun
      rw [frameDiscardEvent_deaf unheard, frameTimeoutEvent_deaf unheard]
      exact ⟨rfl, rfl⟩
  case reading =>
    have plain {kind : Byte} {row : Instr} (names : namesReport kind = true) (read : reportRow l n kind [] = some row) :=
      readStationFrame_of_row names read
    exact ⟨fun station id length => readStationFrame_of_row rfl (if_pos length),
      fun state id length => readStationFrame_of_row rfl (if_pos length),
      plain rfl rfl, plain rfl rfl, plain rfl rfl, plain rfl rfl, plain rfl rfl, plain rfl rfl, plain rfl rfl,
      plain rfl rfl, fun dx dy rotation vision => readStationFrame_of_row rfl (bondedRow_bytes l n dx dy rotation vision),
      plain rfl (congrArg some (purgedRow_eq l n)),
      fun id code count pitch xouts length entries =>
        readStationFrame_of_row rfl (arrivedRow_bytes l n code count pitch length entries),
      plain rfl rfl, fun holds => readStationFrame_of_row rfl rfl, fun code => readStationFrame_of_row rfl rfl,
      fun kind p check unnamed => readStationFrame_bad_kind unnamed check⟩

end Sys2Proof.Machine

/-! The steps of production control (ControlSteps). -/

namespace Sys2Proof.Machine

/-! ## ENTER_HELD and ENTER_STOPPED (R156, R159) -/

theorem State.quiet_iff {s : State} : s.quiet = true ↔ ∀ l, (s.links.get l).outstanding = none := by
  simp only [State.quiet, List.all_eq_true, Option.isNone_iff_eq_none]
  exact ⟨fun free l => free l (by cases l <;> decide), fun free l _ => free l⟩

section AtRest

variable {s : State}

theorem heldDue_of_due (holding : s.control.cell = .holding) (noToken : s.tokens = [])
    (free : s.links.ix.outstanding = none) :
    heldDue s = raise (.cellHeld s.control.holdCause) { s with control := { s.control with cell := .held } } :=
  if_pos ⟨holding, noToken, free⟩

theorem heldDue_of_not_due (kept : s.control.cell ≠ .holding ∨ s.tokens ≠ [] ∨ s.links.ix.outstanding ≠ none) :
    heldDue s = s :=
  if_neg fun ⟨holding, noToken, free⟩ => kept.elim (· holding) (·.elim (· noToken) (· free))

theorem stoppedDue_of_due (stopping : s.control.cell = .stopping) (noToken : s.tokens = [])
    (free : ∀ l, (s.links.get l).outstanding = none) :
    stoppedDue s = { s with control := { s.control with cell := .stopped } } :=
  if_pos ⟨stopping, noToken, State.quiet_iff.2 free⟩

theorem stoppedDue_of_not_due
    (kept : s.control.cell ≠ .stopping ∨ s.tokens ≠ [] ∨ ∃ l, (s.links.get l).outstanding ≠ none) : stoppedDue s = s :=
  if_neg fun ⟨stopping, noToken, quiet⟩ =>
    kept.elim (· stopping) (·.elim (· noToken) fun ⟨l, busy⟩ => busy (State.quiet_iff.1 quiet l))

end AtRest

/-! ## Waiting (R162, R163) -/

theorem endWait_waits_other {n m : Lane} (other : m ≠ n) (s : State) :
    (endWait n s).control.waits.get m = s.control.waits.get m := by
  have kept : (s.control.waits.set n .reset).get m = s.control.waits.get m :=
    (PerLane.get_set _ _ _ _).trans (if_neg other.symm)
  unfold endWait
  dsimp only
  split
  · split
    · rw [syncStarved_frame]
      exact kept
    · exact kept
  · rfl

/-- UNIT-STARVED names the unit and the position the lane waits for (R163). -/
theorem starvedDetail_of_unit {n : Lane} {s : State} {p : Dest} {u : StripUnit}
    (position : (s.control.waits.get n).position = some p) (unit : s.unit p.unit = some u) :
    starvedDetail n s = .unitStarved n u.row u.col p.pos (s.control.waits.get n).reason := by
  simp only [starvedDetail, position, Option.bind_some, unit, Option.map_some, Option.getD_some]

theorem starvedDetail_cond (n : Lane) (s : State) : (starvedDetail n s).cond = .unitStarved := rfl

section EndWait

variable {m : Lane} {s : State}

theorem endWait_of_idle (idle : (s.control.waits.get m).waiting = false) : endWait m s = s :=
  if_neg (Bool.eq_false_iff.1 idle)

theorem endWait_of_unstarved (waits : (s.control.waits.get m).waiting = true)
    (fed : (s.control.waits.get m).starved = false) : endWait m s = s.updWait m fun _ => .reset :=
  (if_pos waits).trans (if_neg (Bool.eq_false_iff.1 fed))

theorem endWait_of_starved (waits : (s.control.waits.get m).waiting = true)
    (starved : (s.control.waits.get m).starved = true) : endWait m s = syncStarved (s.updWait m fun _ => .reset) :=
  (if_pos waits).trans (if_pos starved)

/-- A lane that is not starved leaves the condition to the other lane (R163). -/
theorem syncStarved_of_fed (fed : (s.control.waits.get m).starved = false) :
    syncStarved s = if (s.control.waits.get (otherLane m)).starved then raise (starvedDetail (otherLane m) s) s
      else cease .unitStarved s := by
  cases m <;> cases other : (s.control.waits.get (otherLane _)).starved <;>
    simp only [otherLane] at other <;> simp only [syncStarved, fed, other, otherLane, if_true, if_false, Bool.false_eq_true]

end EndWait

section EnterWait

variable {m : Lane} {r : WaitReason} {s : State}

theorem enterWait_of_idle (idle : (s.control.waits.get m).waiting = false) : enterWait m r s =
    s.updWait m fun _ => ⟨true, some r, s.strip.nextPosition m, some (Config.ticksPer100ms * s.control.timeout), false⟩ :=
  if_neg (Bool.eq_false_iff.1 idle)

/-- The waiting of a lane whose search failed again (R162). -/
def State.waitsOn (s : State) (m : Lane) (r : WaitReason) : State :=
  s.updWait m fun w => { w with reason := some r, position := s.strip.nextPosition m }

theorem enterWait_silent (waits : (s.control.waits.get m).waiting = true)
    (same : (s.control.waits.get m).starved = false ∨ (s.control.waits.get m).reason = some r) :
    enterWait m r s = s.waitsOn m r := by
  refine (if_pos waits).trans (if_neg fun changed => ?_)
  rw [Bool.and_eq_true, decide_eq_true_iff] at changed
  exact same.elim (Bool.eq_false_iff.1 · changed.1) changed.2

theorem enterWait_told (waits : (s.control.waits.get m).waiting = true)
    (starved : (s.control.waits.get m).starved = true) (changed : (s.control.waits.get m).reason ≠ some r) :
    enterWait m r s = raise (starvedDetail m (s.waitsOn m r)) (s.waitsOn m r) := by
  refine (if_pos waits).trans (if_pos ?_)
  rw [Bool.and_eq_true, decide_eq_true_iff]
  exact ⟨starved, changed⟩

end EnterWait

/-! ## UNIT_REASSIGNMENT (R161) -/

/-- The OPEN units are assigned to a lane. -/
def State.reassigned (s : State) (n : Lane) : State :=
  { s with strip := { s.strip with units := s.strip.units.map fun u =>
      if u.state = .opened then { u with lane := n } else u } }

theorem reassignDue_of_due {n : Lane} {s : State} (any : s.control.gating = .any) (active : s.strip.state = .active)
    (able : s.usable n = true) (other : s.usable (otherLane n) = false) : reassignDue s = s.reassigned n := by
  cases n with
  | one =>
    have differ : s.usable .one ≠ s.usable .two := by rw [able, show s.usable .two = false from other]; decide
    refine (if_pos ⟨any, active, differ⟩).trans ?_
    simp only [able, if_true, State.reassigned]
  | two =>
    have differ : s.usable .one ≠ s.usable .two := by rw [able, show s.usable .one = false from other]; decide
    refine (if_pos ⟨any, active, differ⟩).trans ?_
    simp only [show s.usable .one = false from other, Bool.false_eq_true, if_false, State.reassigned]

/-- Lane 2's waiting ends by what holds before lane 1's has ended (R162). -/
theorem endWaitDue_two_one (s : State) : endWaitDue .two (endWaitDue .one s) =
    if (s.control.waits.get .two).waiting = true ∧
        (s.control.waits.get .two).position ≠ s.strip.nextPosition .two then endWait .two (endWaitDue .one s)
    else endWaitDue .one s := by
  have waits : (endWaitDue .one s).control.waits.get .two = s.control.waits.get .two := by
    unfold endWaitDue
    split
    · exact endWait_waits_other (by decide) s
    · rfl
  have strip : (endWaitDue .one s).strip = s.strip := by
    unfold endWaitDue
    split
    · rw [endWait_frame]
    · rfl
  rw [endWaitDue, waits, strip]

/-- Settles O47: each step by the condition it tests. -/
theorem controlSteps : Obligations.ControlSteps := by
  intro s on
  have held : exec .enterHeld s = .next (heldDue s) := live_on on
  have stopped : exec .enterStopped s = .next (stoppedDue s) := live_on on
  have reassign : exec .unitReassignment s = .next (reassignStep s) := live_on on
  have expiry (n : Lane) : exec (.starvationExpiry n) s = .next (starvationExpiryEvent n s) := live_on on
  rw [held, stopped, reassign]
  refine ⟨fun holding noToken free => by rw [heldDue_of_due holding noToken free],
    fun kept => by rw [heldDue_of_not_due kept],
    fun stopping noToken free => by rw [stoppedDue_of_due stopping noToken free],
    fun kept => by rw [stoppedDue_of_not_due kept], fun n any active able other => ?reassigned, fun m => ?ended,
    fun m r => ?entered, fun n waits runs => ?expired, fun n off => ?notRunning⟩
  case reassigned =>
    have due := reassignDue_of_due any active able other
    refine ⟨fun idleOne idleTwo => ?_, ?_⟩
    · rw [reassignStep, due, endWaitDue_of_not_waiting (s := s.reassigned n) (n := .one) idleOne,
        endWaitDue_of_not_waiting (s := s.reassigned n) (n := .two) idleTwo]
      rfl
    · rw [reassignStep, due, endWaitDue_two_one]
      rfl
  case ended =>
    have fed : ((s.updWait m fun _ => .reset).control.waits.get m).starved = false :=
      congrArg Wait.starved (PerLane.get_set_same _ _ _)
    have others : (s.updWait m fun _ => .reset).control.waits.get (otherLane m) = s.control.waits.get (otherLane m) :=
      (PerLane.get_set _ _ _ _).trans (if_neg (otherLane_ne m).symm)
    refine ⟨endWait_of_idle, endWait_of_unstarved, fun waits starved otherFed => ?_,
      fun p u waits starved otherStarved position unit => ?_⟩
    · rw [endWait_of_starved waits starved, syncStarved_of_fed fed, others, otherFed]
      rfl
    · rw [endWait_of_starved waits starved, syncStarved_of_fed fed, others, otherStarved,
        starvedDetail_of_unit (s := s.updWait m fun _ => .reset) (by rw [others]; exact position) unit, others]
      rfl
  case entered =>
    refine ⟨enterWait_of_idle, enterWait_silent, fun p u waits starved changed position unit => ?_⟩
    have written : (s.waitsOn m r).control.waits.get m =
        { s.control.waits.get m with reason := some r, position := s.strip.nextPosition m } := PerLane.get_set_same _ _ _
    rw [enterWait_told waits starved changed,
      starvedDetail_of_unit (s := s.waitsOn m r) (by rw [written]; exact position) unit, written]
    rfl
  case expired =>
    have written : ((s.updWait n fun w => { w with starved := true, timer := none }).control.waits.get n) =
        { s.control.waits.get n with starved := true, timer := none } := PerLane.get_set_same _ _ _
    refine ⟨starvedDetail n (s.updWait n fun w => { w with starved := true, timer := none }), rfl,
      fun p u position unit => ?_, ?_⟩
    · rw [starvedDetail_of_unit (s := s.updWait n fun w => { w with starved := true, timer := none })
        (by rw [written]; exact position) unit, written]
    · rw [expiry]
      exact congrArg Host.Outcome.next (if_pos ⟨waits, runs⟩)
  case notRunning =>
    rw [expiry]
    refine congrArg Host.Outcome.next (if_neg fun ⟨_, runs⟩ => ?_)
    rw [off] at runs
    exact Bool.noConfusion runs

end Sys2Proof.Machine

/-! STOP (StopAbortsTheOrders). -/

namespace Sys2Proof.Machine

/-! ## An ABORT in place of an order (R158, R169) -/

/-- STOP aborts the order of a link (R51, R84, R103, R127). -/
def State.aborts (s : State) (l : Link) : Bool :=
  match l with
  | .ta | .tb => decide (s.orderOn l = some .loadWafer ∨ s.orderOn l = some .unloadWafer ∨ s.orderOn l = some .step)
  | .pk => decide (s.orderOn l = some .pick ∨ s.orderOn l = some .put)
  | .b1 => (s.orderOn l).isSome && (s.lanes.get .one).collet.origin.isSome
  | .b2 => (s.orderOn l).isSome && (s.lanes.get .two).collet.origin.isSome
  | .ix => decide (s.orderOn l = some .loadStrip ∨ s.orderOn l = some .ejectStrip)

/-- A link's record after an ABORT has gone out on it. -/
def State.abortedRec (s : State) (l : Link) : LinkRec :=
  { s.links.get l with
    nextNumber := (s.links.get l).nextNumber + 1, outstanding := some ⟨.abort, (s.links.get l).nextNumber⟩
    watchdog := some (Config.ticksPerMs * s.limits.abort), test := (s.links.get l).test - 1 }

/-- The ABORT frame that goes out on a link. -/
def State.abortFrame (s : State) (l : Link) : LineEvent :=
  .frame l (s.links.get l).nextNumber 12 []
    (if (s.links.get l).test = 1 then ~~~crc8 [(s.links.get l).nextNumber, 12] else crc8 [(s.links.get l).nextNumber, 12])

/-- A lane's record after its order has been aborted (R127). -/
def LaneRec.abortedBy (r : LaneRec) : LaneRec := { r with collet := .aborting, abort := r.collet.origin }

/-- What the owner of a link records when the link's order is aborted (R103, R127). -/
def abortOwner (l : Link) (s : State) : State :=
  match l with
  | .pk => setPicker .aborting s
  | .b1 => s.updLane .one LaneRec.abortedBy
  | .b2 => s.updLane .two LaneRec.abortedBy
  | .ta | .tb | .ix => s

/-- STOP on one link. -/
def stopLink (l : Link) (s : State) : State := if s.aborts l then abortOwner l (sendAbort l s) else s

theorem abortOwner_frame (l : Link) (s : State) :
    abortOwner l s = { s with lanes := (abortOwner l s).lanes, picker := (abortOwner l s).picker } := by
  cases l <;> rfl

theorem abortOwner_lane (l : Link) (s : State) (n : Lane) : (abortOwner l s).lanes.get n =
    if bonderLink n = l then (s.lanes.get n).abortedBy else s.lanes.get n := by
  cases l <;> cases n <;> rfl

theorem abortOwner_picker (l : Link) (s : State) : (abortOwner l s).picker =
    if l = .pk then { s.picker with state := .aborting } else s.picker := by
  cases l <;> rfl

theorem sendAbort_eq (l : Link) (s : State) : sendAbort l s = { s with
    links := s.links.set l (s.abortedRec l), wire := s.wire ++ [s.abortFrame l] } := by
  simp only [sendAbort, sendOrder, endOrder, State.updLink, PerLink.get_set_same, PerLink.set_set]
  rfl

/-! ## The model's six stops are the stop of a link each -/

theorem stopTable_eq (k : Table) (s : State) : stopTable k s = stopLink (tableLink k) s := by
  have aborts : s.aborts (tableLink k) = decide (s.orderOn (tableLink k) = some .loadWafer ∨
      s.orderOn (tableLink k) = some .unloadWafer ∨ s.orderOn (tableLink k) = some .step) := by cases k <;> rfl
  have owner (t : State) : abortOwner (tableLink k) t = t := by cases k <;> rfl
  rw [stopTable, stopLink, aborts, owner]
  cases order : s.orderOn (tableLink k) with
  | none => rfl
  | some kind => cases kind <;> rfl

theorem stopPicker_eq (s : State) : stopPicker s = stopLink .pk s := by
  rw [stopPicker, stopLink, State.aborts]
  cases order : s.orderOn .pk with
  | none => rfl
  | some kind => cases kind <;> rfl

theorem stopStrip_eq (s : State) : stopStrip s = stopLink .ix s := by
  rw [stopStrip, stopLink, State.aborts]
  cases order : s.orderOn .ix with
  | none => rfl
  | some kind => cases kind <;> rfl

theorem State.aborts_bonderLink (s : State) (n : Lane) : s.aborts (bonderLink n) =
    ((s.orderOn (bonderLink n)).isSome && (s.lanes.get n).collet.origin.isSome) := by
  cases n <;> rfl

theorem abortOwner_bonderLink (n : Lane) (s : State) :
    abortOwner (bonderLink n) s = s.updLane n LaneRec.abortedBy := by
  cases n <;> rfl

theorem stopLane_eq (n : Lane) (s : State) : stopLane n s = stopLink (bonderLink n) s := by
  rw [stopLane, stopLink, State.aborts_bonderLink, abortOwner_bonderLink]
  cases order : s.orderOn (bonderLink n) with
  | none => rfl
  | some kind =>
    cases origin : (s.lanes.get n).collet.origin with
    | none => rfl
    | some o =>
      simp only [Option.isSome_some, Bool.and_self, if_true, State.updLane, sendAbort_eq, LaneRec.abortedBy, origin]

/-! ## The links stopped one after the other -/

/-- `u` is `s` with the orders of the links of `ls` aborted where STOP aborts them. -/
structure AbortedOn (ls : List Link) (s u : State) : Prop where
  links : ∀ l, u.links.get l = if l ∈ ls ∧ s.aborts l = true then s.abortedRec l else s.links.get l
  wire : u.wire = s.wire ++ (ls.filter s.aborts).map s.abortFrame
  picker : u.picker = if .pk ∈ ls ∧ s.aborts .pk = true then { s.picker with state := .aborting } else s.picker
  lanes : ∀ n, u.lanes.get n =
    if bonderLink n ∈ ls ∧ s.aborts (bonderLink n) = true then (s.lanes.get n).abortedBy else s.lanes.get n
  frame : u = { s with links := u.links, wire := u.wire, lanes := u.lanes, picker := u.picker }

namespace AbortedOn

variable {ls : List Link} {s u : State} {l : Link}

theorem refl (s : State) : AbortedOn [] s s := by
  refine ⟨fun l => (if_neg ?_).symm, (List.append_nil _).symm, (if_neg ?_).symm, fun n => (if_neg ?_).symm, rfl⟩
  all_goals exact fun ⟨inNil, _⟩ => List.not_mem_nil inNil

/-- A link not stopped yet stands as before. -/
theorem link_of_not_mem (h : AbortedOn ls s u) (new : l ∉ ls) : u.links.get l = s.links.get l :=
  (h.links l).trans (if_neg fun ⟨old, _⟩ => new old)

theorem limits (h : AbortedOn ls s u) : u.limits = s.limits := by rw [h.frame]

theorem lane_of_not_mem (h : AbortedOn ls s u) {n : Lane} (new : bonderLink n ∉ ls) : u.lanes.get n = s.lanes.get n :=
  (h.lanes n).trans (if_neg fun ⟨old, _⟩ => new old)

theorem aborts_of_not_mem (h : AbortedOn ls s u) (new : l ∉ ls) : u.aborts l = s.aborts l := by
  have order : u.orderOn l = s.orderOn l := by rw [State.orderOn, State.orderOn, h.link_of_not_mem new]
  cases l with
  | b1 => rw [State.aborts, State.aborts, order, h.lane_of_not_mem (n := .one) new]
  | b2 => rw [State.aborts, State.aborts, order, h.lane_of_not_mem (n := .two) new]
  | _ => rw [State.aborts, State.aborts, order]

theorem mem_snoc_of_kept {x : Link} (kept : s.aborts l = false) :
    (x ∈ ls ++ [l] ∧ s.aborts x = true) ↔ (x ∈ ls ∧ s.aborts x = true) := by
  refine and_congr_left fun aborted => ?_
  have other : x ≠ l := fun same => by rw [same, kept] at aborted; exact Bool.noConfusion aborted
  simp only [List.mem_append, List.mem_singleton, other, or_false]

theorem mem_snoc_of_ne {x : Link} (other : x ≠ l) :
    (x ∈ ls ++ [l] ∧ s.aborts x = true) ↔ (x ∈ ls ∧ s.aborts x = true) := by
  simp only [List.mem_append, List.mem_singleton, other, or_false]

theorem snoc_of_kept (h : AbortedOn ls s u) (kept : s.aborts l = false) : AbortedOn (ls ++ [l]) s u where
  links m := by rw [h.links]; simp only [mem_snoc_of_kept kept]
  wire := by
    rw [h.wire, List.filter_append, List.filter_cons_of_neg (Bool.eq_false_iff.1 kept), List.filter_nil,
      List.append_nil]
  picker := by rw [h.picker]; simp only [mem_snoc_of_kept kept]
  lanes n := by rw [h.lanes]; simp only [mem_snoc_of_kept kept]
  frame := h.frame

theorem snoc_of_aborted (h : AbortedOn ls s u) (new : l ∉ ls) (aborted : s.aborts l = true) :
    AbortedOn (ls ++ [l]) s (abortOwner l (sendAbort l u)) := by
  have last : l ∈ ls ++ [l] ∧ s.aborts l = true := ⟨List.mem_append_right _ (List.mem_singleton.2 rfl), aborted⟩
  have record : u.abortedRec l = s.abortedRec l := by
    rw [State.abortedRec, State.abortedRec, h.link_of_not_mem new, h.limits]
  have event : u.abortFrame l = s.abortFrame l := by rw [State.abortFrame, State.abortFrame, h.link_of_not_mem new]
  rw [sendAbort_eq, record, event]
  refine ⟨fun m => ?links, ?wire, ?picker, fun n => ?lanes, ?frame⟩
  case links =>
    rw [abortOwner_frame]
    by_cases same : m = l
    · subst same
      rw [if_pos last]
      exact PerLink.get_set_same _ _ _
    · simp only [mem_snoc_of_ne same]
      exact ((PerLink.get_set _ _ _ _).trans (if_neg (Ne.symm same))).trans (h.links m)
  case wire =>
    rw [abortOwner_frame]
    simp only [h.wire, List.filter_append, List.filter_cons_of_pos aborted, List.filter_nil, List.map_append,
      List.map_singleton, List.append_assoc]
  case picker =>
    rw [abortOwner_picker]
    by_cases same : l = .pk
    · subst same
      rw [if_pos rfl, if_pos last]
      exact congrArg (fun p : Picker => { p with state := .aborting }) (h.picker.trans (if_neg fun ⟨old, _⟩ => new old))
    · simp only [mem_snoc_of_ne (Ne.symm same), if_neg same]
      exact h.picker
  case lanes =>
    rw [abortOwner_lane]
    by_cases same : bonderLink n = l
    · subst same
      rw [if_pos rfl, if_pos last]
      exact congrArg LaneRec.abortedBy (h.lane_of_not_mem new)
    · simp only [mem_snoc_of_ne same, if_neg same]
      exact h.lanes n
  case frame =>
    rw [abortOwner_frame, h.frame]

theorem stopLink (h : AbortedOn ls s u) (new : l ∉ ls) : AbortedOn (ls ++ [l]) s (stopLink l u) := by
  unfold Machine.stopLink
  rw [h.aborts_of_not_mem new]
  cases aborted : s.aborts l with
  | false => exact h.snoc_of_kept aborted
  | true => exact h.snoc_of_aborted new aborted

end AbortedOn

/-! ## STOP (R158) -/

/-- The cell STOPPING with both lanes' waiting ended, before any order is aborted. -/
def State.stopBegun (s : State) : State :=
  endWait .two (endWait .one { s with control := { s.control with cell := .stopping, holdCause := none } })

theorem stopEffect_abortedOn (s : State) : AbortedOn [.ta, .tb, .pk, .b1, .b2, .ix] s.stopBegun (stopEffect s) := by
  rw [stopEffect, stopTable_eq, stopTable_eq, stopPicker_eq, stopLane_eq, stopLane_eq, stopStrip_eq]
  exact (AbortedOn.refl s.stopBegun).stopLink (l := .ta) (by decide) |>.stopLink (l := .tb) (by decide)
    |>.stopLink (l := .pk) (by decide) |>.stopLink (l := .b1) (by decide) |>.stopLink (l := .b2) (by decide)
    |>.stopLink (l := .ix) (by decide)

theorem State.stopBegun_frame (s : State) : s.stopBegun = { s with
    control := { s.control with cell := .stopping, holdCause := none, waits := s.stopBegun.control.waits }
    conds := s.stopBegun.conds, host := s.stopBegun.host } := by
  unfold State.stopBegun
  rw [endWait_frame .two, endWait_frame .one]

theorem State.stopBegun_waiting (s : State) (n : Lane) : (s.stopBegun.control.waits.get n).waiting = false := by
  unfold State.stopBegun
  cases n with
  | one =>
    rw [endWait_waits_other (by decide)]
    exact endWait_waiting .one _
  | two => exact endWait_waiting .two _

/-- The end of the waiting of a lane that is not starved tells nobody. -/
theorem endWait_silent {n : Lane} {s : State} (fed : (s.control.waits.get n).starved = false) :
    (endWait n s).conds = s.conds ∧ (endWait n s).host = s.host := by
  cases waits : (s.control.waits.get n).waiting with
  | false =>
    rw [endWait_of_idle waits]
    exact ⟨rfl, rfl⟩
  | true =>
    rw [endWait_of_unstarved waits fed]
    exact ⟨rfl, rfl⟩

theorem State.stopBegun_silent {s : State} (fed : ∀ n, (s.control.waits.get n).starved = false) :
    s.stopBegun.conds = s.conds ∧ s.stopBegun.host = s.host := by
  unfold State.stopBegun
  have one := endWait_silent (n := .one)
    (s := { s with control := { s.control with cell := .stopping, holdCause := none } }) (fed .one)
  have two := endWait_silent (n := .two)
    (s := endWait .one { s with control := { s.control with cell := .stopping, holdCause := none } })
    (by rw [endWait_waits_other (by decide)]; exact fed .two)
  exact ⟨two.1.trans one.1, two.2.trans one.2⟩

/-- STOP looks at no field that the beginning of STOP writes. -/
theorem State.aborts_stopBegun (s : State) : s.stopBegun.aborts = s.aborts := by
  rw [State.stopBegun_frame]
  rfl

section StopEffect

variable (s : State)

theorem mem_stopped_iff {s : State} (l : Link) :
    (l ∈ [Link.ta, .tb, .pk, .b1, .b2, .ix] ∧ s.stopBegun.aborts l = true) ↔ s.aborts l = true := by
  rw [State.aborts_stopBegun]
  exact and_iff_right (by cases l <;> decide)

theorem stopEffect_links (l : Link) :
    (stopEffect s).links.get l = if s.aborts l = true then s.abortedRec l else s.links.get l := by
  rw [(stopEffect_abortedOn s).links]
  simp only [mem_stopped_iff]
  rw [State.stopBegun_frame]
  rfl

theorem stopEffect_wire : (stopEffect s).wire =
    s.wire ++ ([.ta, .tb, .pk, .b1, .b2, .ix].filter s.aborts).map s.abortFrame := by
  rw [(stopEffect_abortedOn s).wire, State.aborts_stopBegun, State.stopBegun_frame]
  rfl

theorem stopEffect_picker :
    (stopEffect s).picker = if s.aborts .pk = true then { s.picker with state := .aborting } else s.picker := by
  rw [(stopEffect_abortedOn s).picker]
  simp only [mem_stopped_iff]
  rw [State.stopBegun_frame]

theorem stopEffect_lanes (n : Lane) : (stopEffect s).lanes.get n =
    if s.aborts (bonderLink n) = true then (s.lanes.get n).abortedBy else s.lanes.get n := by
  rw [(stopEffect_abortedOn s).lanes]
  simp only [mem_stopped_iff]
  rw [State.stopBegun_frame]

theorem stopEffect_frame : stopEffect s = { s.stopBegun with
    links := (stopEffect s).links, wire := (stopEffect s).wire, lanes := (stopEffect s).lanes
    picker := (stopEffect s).picker } := (stopEffect_abortedOn s).frame

end StopEffect

/-- Settles O45: the links are stopped one after the other; the frames go out in the links' order. -/
theorem stopAbortsTheOrders : Obligations.StopAbortsTheOrders := by
  intro tag s on
  refine ⟨fun resting => ?resting, fun moving => ?moving⟩
  case resting =>
    refine live_answers (kind := 82) (values := []) on ?_
    rcases resting with cell | cell
    · simp only [stopCmd, readNothing, cell]
    · simp only [stopCmd, readNothing, cell]
  case moving =>
    intro order origin aborted frame
    have acts : stopCmd [] s = .acts (stopEffect s) [] := by
      rcases moving with cell | cell | cell
      · simp only [stopCmd, readNothing, cell]
      · simp only [stopCmd, readNothing, cell]
      · simp only [stopCmd, readNothing, cell]
    have aborts : s.aborts = aborted := by
      funext l
      cases l <;> rfl
    rw [← aborts]
    refine ⟨stopEffect s, live_acts (kind := 82) on acts, ?cell, ?cause, fun n => ?waits,
      fun l sent => (stopEffect_links s l).trans (if_pos sent),
      fun l kept => (stopEffect_links s l).trans (if_neg (Bool.eq_false_iff.1 kept)),
      ⟨_, stopEffect_wire s, .refl _⟩, stopEffect_picker s, fun n sent => (stopEffect_lanes s n).trans (if_pos sent),
      fun n kept => (stopEffect_lanes s n).trans (if_neg (Bool.eq_false_iff.1 kept)), fun fed => ?told, ?others⟩
    case cell => rw [stopEffect_frame, State.stopBegun_frame]
    case cause => rw [stopEffect_frame, State.stopBegun_frame]
    case waits =>
      rw [stopEffect_frame]
      exact s.stopBegun_waiting n
    case told =>
      rw [stopEffect_frame]
      exact State.stopBegun_silent fed
    case others =>
      rw [stopEffect_frame, State.stopBegun_frame]

end Sys2Proof.Machine

/-! What comes about by itself, and what it keeps (ConsequencesWriteNoRecord, RunAndHold). -/

namespace Sys2Proof.Machine

/-! ## What is kept -/

/-- No order goes out on a link: it is not UP, and a table's link is that of a FAULTED table whose slot, if it has one,
the other table does not share. -/
def State.shut (s : State) (l : Link) : Prop :=
  (s.links.get l).state ≠ .up ∧ ∀ k, tableLink k = l →
    (s.tables.get k).faulted = true ∧ (s.tables.a.slot = none ∨ s.tables.a.slot ≠ s.tables.b.slot)

/-- The links stand as they did, a shut link is left alone, and tables and lanes keep what the links' standing gives. -/
structure Steady (s t : State) : Prop where
  standing : ∀ l, (t.links.get l).state = (s.links.get l).state ∧ (t.links.get l).cause = (s.links.get l).cause ∧
    (t.links.get l).lastError = (s.links.get l).lastError
  shut : ∀ l, s.shut l → t.links.get l = s.links.get l
  tables : ∀ k, (t.tables.get k).faulted = (s.tables.get k).faulted ∧ (t.tables.get k).slot = (s.tables.get k).slot
  lanes : ∀ n, (t.lanes.get n).enable = (s.lanes.get n).enable ∧ (t.lanes.get n).degraded = (s.lanes.get n).degraded

/-- A steady change that leaves production control alone but for the lanes' waiting. -/
structure Steered (s t : State) : Prop extends Steady s t where
  control : t.control = { s.control with waits := t.control.waits }

/-- No placement record is written, no token ended and no monitor moved. -/
structure Unrecorded (s t : State) : Prop where
  records : t.log.records = s.log.records
  serial : t.log.serial = s.log.serial
  overwritten : t.log.overwritten = s.log.overwritten
  monitors : t.monitors = s.monitors
  tokens : ∀ x ∈ s.tokens, x ∈ t.tokens

/-- What the owners and new work do by themselves outside STOPPING. -/
structure Routine (s t : State) : Prop extends Steered s t, Unrecorded s t

section Order

variable {s t u : State}

theorem Steady.of_frame (links : t.links = s.links := by rfl) (tables : t.tables = s.tables := by rfl)
    (lanes : t.lanes = s.lanes := by rfl) : Steady s t where
  standing l := by rw [links]; exact ⟨rfl, rfl, rfl⟩
  shut l _ := by rw [links]
  tables k := by rw [tables]; exact ⟨rfl, rfl⟩
  lanes n := by rw [lanes]; exact ⟨rfl, rfl⟩

theorem Steered.of_frame (links : t.links = s.links := by rfl) (tables : t.tables = s.tables := by rfl)
    (lanes : t.lanes = s.lanes := by rfl)
    (control : t.control = { s.control with waits := t.control.waits } := by rfl) : Steered s t where
  toSteady := .of_frame links tables lanes
  control := control

theorem Unrecorded.of_frame (records : t.log.records = s.log.records := by rfl)
    (serial : t.log.serial = s.log.serial := by rfl) (overwritten : t.log.overwritten = s.log.overwritten := by rfl)
    (monitors : t.monitors = s.monitors := by rfl) (tokens : t.tokens = s.tokens := by rfl) : Unrecorded s t :=
  ⟨records, serial, overwritten, monitors, fun _ mem => tokens ▸ mem⟩

theorem Steady.shut_kept {l : Link} (h : Steady s t) (shut : s.shut l) : t.shut l := by
  obtain ⟨down, tables⟩ := shut
  refine ⟨(h.standing l).1 ▸ down, fun k link => ⟨(h.tables k).1 ▸ (tables k link).1, ?_⟩⟩
  have slotA : t.tables.a.slot = s.tables.a.slot := (h.tables .a).2
  have slotB : t.tables.b.slot = s.tables.b.slot := (h.tables .b).2
  rw [slotA, slotB]
  exact (tables k link).2

theorem Steady.trans (h : Steady s t) (g : Steady t u) : Steady s u where
  standing l :=
    have ⟨state, cause, lastError⟩ := h.standing l
    have ⟨state', cause', lastError'⟩ := g.standing l
    ⟨state'.trans state, cause'.trans cause, lastError'.trans lastError⟩
  shut l shut := (g.shut l (h.shut_kept shut)).trans (h.shut l shut)
  tables k := ⟨(g.tables k).1.trans (h.tables k).1, (g.tables k).2.trans (h.tables k).2⟩
  lanes n := ⟨(g.lanes n).1.trans (h.lanes n).1, (g.lanes n).2.trans (h.lanes n).2⟩

theorem Steered.trans (h : Steered s t) (g : Steered t u) : Steered s u where
  toSteady := h.toSteady.trans g.toSteady
  control := by rw [g.control, h.control]

theorem Unrecorded.trans (h : Unrecorded s t) (g : Unrecorded t u) : Unrecorded s u :=
  ⟨g.records.trans h.records, g.serial.trans h.serial, g.overwritten.trans h.overwritten, g.monitors.trans h.monitors,
    fun x mem => g.tokens x (h.tokens x mem)⟩

theorem Routine.trans (h : Routine s t) (g : Routine t u) : Routine s u :=
  ⟨h.toSteered.trans g.toSteered, h.toUnrecorded.trans g.toUnrecorded⟩

theorem Routine.of_frame (links : t.links = s.links := by rfl) (tables : t.tables = s.tables := by rfl)
    (lanes : t.lanes = s.lanes := by rfl)
    (control : t.control = { s.control with waits := t.control.waits } := by rfl)
    (log : t.log = s.log := by rfl) (monitors : t.monitors = s.monitors := by rfl)
    (tokens : t.tokens = s.tokens := by rfl) : Routine s t :=
  ⟨.of_frame links tables lanes control, .of_frame (by rw [log]) (by rw [log]) (by rw [log]) monitors tokens⟩

theorem Routine.refl (s : State) : Routine s s := .of_frame

theorem Steered.cell (h : Steered s t) : t.control.cell = s.control.cell := by rw [h.control]

theorem Steered.holdCause (h : Steered s t) : t.control.holdCause = s.control.holdCause := by rw [h.control]

theorem Steered.gating (h : Steered s t) : t.control.gating = s.control.gating := by rw [h.control]

theorem Steady.usable (h : Steady s t) (n : Lane) : t.usable n = s.usable n := by
  simp only [State.usable, h.lanes, h.standing]

theorem Steady.leftUp (h : Steady s t) (s0 : State) (l : Link) : Machine.leftUp s0 t l = Machine.leftUp s0 s l := by
  simp only [Machine.leftUp, h.standing]

end Order

/-! ## The shared operations -/

section Shared

variable {s : State} {l : Link}

theorem not_shut_of_linkFree (free : s.linkFree l = true) : ¬s.shut l :=
  fun ⟨down, _⟩ => down (linkFree_iff.1 free).1

/-- An order is sent on a link that is not shut (R169). -/
theorem routine_sendOrder (opened : ¬s.shut l) (k : OrderKind) (p : List Byte) : Routine s (sendOrder l k p s) := by
  refine ⟨⟨⟨fun m => ?standing, fun m shut => ?shut, fun k => ⟨rfl, rfl⟩, fun n => ⟨rfl, rfl⟩⟩, rfl⟩, .of_frame⟩
  case standing =>
    by_cases same : l = m
    · subst same
      simp only [sendOrder, PerLink.get_set_same, and_self]
    · simp only [sendOrder, PerLink.get_set, same, if_false, and_self]
  case shut =>
    have other : l ≠ m := fun same => opened (same ▸ shut)
    simp only [sendOrder, PerLink.get_set, other, if_false]

/-- An order sent with its owner's record, on a link free before it (R169). -/
theorem routine_sendMarked {t : State} (marked : Routine s t) (free : s.linkFree l = true) (k : OrderKind)
    (p : List Byte) (same : t.links = s.links := by rfl) : Routine s (sendOrder l k p t) := by
  refine marked.trans (routine_sendOrder (not_shut_of_linkFree ?_) k p)
  rw [State.linkFree, same]
  exact free

theorem routine_updTable {f : TableRec → TableRec} (k : Table)
    (kept : ∀ r, (f r).faulted = r.faulted ∧ (f r).slot = r.slot) : Routine s (s.updTable k f) := by
  refine ⟨⟨⟨fun m => ⟨rfl, rfl, rfl⟩, fun m _ => rfl, fun m => ?_, fun n => ⟨rfl, rfl⟩⟩, rfl⟩, .of_frame⟩
  rw [updTable_get]
  split
  next same => exact same ▸ kept _
  next => exact ⟨rfl, rfl⟩

theorem routine_updLane {f : LaneRec → LaneRec} (n : Lane)
    (kept : ∀ r, (f r).enable = r.enable ∧ (f r).degraded = r.degraded) : Routine s (s.updLane n f) := by
  refine ⟨⟨⟨fun m => ⟨rfl, rfl, rfl⟩, fun m _ => rfl, fun m => ⟨rfl, rfl⟩, fun m => ?_⟩, rfl⟩, .of_frame⟩
  rw [updLane_get]
  split
  next same => exact same ▸ kept _
  next => exact ⟨rfl, rfl⟩

theorem routine_raise (d : Detail) (s : State) : Routine s (raise d s) := by
  rw [raise_frame]
  exact .of_frame

theorem routine_endWait (n : Lane) (s : State) : Routine s (endWait n s) := by
  rw [endWait_frame]
  exact .of_frame

theorem routine_enterWait (n : Lane) (r : WaitReason) (s : State) : Routine s (enterWait n r s) := by
  rw [enterWait_frame]
  exact .of_frame

end Shared

/-! ## The owners -/

section Owners

variable (s : State)

theorem routine_ejectStripDue : Routine s (ejectStripDue s) := by
  unfold ejectStripDue
  split
  next due =>
    obtain ⟨-, -, -, free⟩ := due
    refine routine_sendMarked ?_ free _ _
    exact .of_frame
  next => exact .refl s

theorem routine_stripDoneDue : Routine s (stripDoneDue s) := by
  unfold stripDoneDue
  split
  next =>
    have marked : Routine s { s with strip := { s.strip with done := true } } := .of_frame
    exact (marked.trans (routine_raise _ _)).trans (routine_ejectStripDue _)
  next => exact .refl s

theorem routine_unloadDue (k : Table) : Routine s (unloadDue k s) := by
  unfold unloadDue
  dsimp only
  split
  next due =>
    obtain ⟨-, -, free⟩ := due
    refine routine_sendMarked ?_ free _ _
    exact routine_updTable k fun _ => ⟨rfl, rfl⟩
  next => exact .refl s

theorem routine_nestPurgeDue (n : Lane) : Routine s (nestPurgeDue n s) := by
  unfold nestPurgeDue
  split
  next due =>
    obtain ⟨-, -, free⟩ := due
    refine routine_sendMarked ?_ free _ _
    exact routine_updLane n fun _ => ⟨rfl, rfl⟩
  next => exact .refl s

theorem routine_takeDue (n : Lane) : Routine s (takeDue n s) := by
  unfold takeDue
  split
  next due =>
    obtain ⟨-, -, -, free⟩ := due
    refine routine_sendMarked ?_ free _ _
    exact routine_updLane n fun _ => ⟨rfl, rfl⟩
  next => exact .refl s

/-- The owners before the nests, and after them. -/
theorem routine_unloadDues : Routine s (unloadDue .b (unloadDue .a (ejectStripDue (stripDoneDue s)))) :=
  (((routine_stripDoneDue s).trans (routine_ejectStripDue _)).trans (routine_unloadDue _ .a)).trans (routine_unloadDue _ .b)

theorem routine_nestDues : Routine s (takeDue .two (nestPurgeDue .two (takeDue .one (nestPurgeDue .one s)))) :=
  (((routine_nestPurgeDue s .one).trans (routine_takeDue _ .one)).trans (routine_nestPurgeDue _ .two)).trans
    (routine_takeDue _ .two)

/-- Outside STOPPING the owners do no more than send orders and tell. -/
theorem routine_owners {s : State} (moving : s.control.cell ≠ .stopping) : Routine s (owners s) := by
  have first := routine_unloadDues s
  have still : (unloadDue .b (unloadDue .a (ejectStripDue (stripDoneDue s)))).control.cell ≠ .stopping :=
    first.cell ▸ moving
  rw [owners, nestLostDue_of_not_stopping .one still, nestLostDue_of_not_stopping .two still]
  exact first.trans (routine_nestDues _)

end Owners

/-! ## New work -/

section NewWork

theorem routine_loadStripDue (s : State) : Routine s (loadStripDue s) := by
  unfold loadStripDue
  split
  next due =>
    obtain ⟨-, -, free⟩ := due
    refine routine_sendMarked ?_ free _ _
    exact .of_frame
  next => exact .refl s

theorem routine_searchFailed (n : Lane) (t : DieType) (r : SearchResult) (s : State) :
    Routine s (searchFailed n t r s) := by
  unfold searchFailed
  split
  · refine Routine.trans ?_ (routine_enterWait n _ _)
    split
    · exact .refl s
    · exact Routine.trans .of_frame (routine_raise _ _)
  all_goals exact routine_enterWait n _ s

variable {n : Lane} {d : Dest} {t : DieType} {u : StripUnit} {i : SlotId} {r c : Nat} {x : Site} {cls : Nat} {g : Group}
  {s : State}

theorem routine_grantedState : Routine s (grantedState n d t u i r c x cls g s) := by
  refine ⟨?_, ?_⟩
  · rw [grantedState_eq]
    exact .of_frame
  · rw [grantedState_eq]
    exact ⟨rfl, rfl, rfl, rfl, fun x mem => List.mem_append_left _ mem⟩

theorem tableOfSlot_eq_some {k : Table} (bound : s.tableOfSlot i = some k) : (s.tables.get k).slot = some i :=
  of_decide_eq_true (List.find?_some (p := fun k => decide ((s.tables.get k).slot = some i)) bound)

theorem Table.forall_of_ne {P : Table → Prop} {j k : Table} (other : j ≠ k) (first : P j) (second : P k) (m : Table) :
    P m := by
  cases j with
  | a =>
    cases k with
    | a => exact absurd rfl other
    | b =>
      cases m with
      | a => exact first
      | b => exact second
  | b =>
    cases k with
    | a =>
      cases m with
      | a => exact second
      | b => exact first
    | b => exact absurd rfl other

/-- The link of the table that a searched slot is bound to is not shut: a table of the slot is not FAULTED (R57). -/
theorem not_shut_of_mayBeSearched {k : Table} (searched : s.mayBeSearched t i) (bound : s.tableOfSlot i = some k) :
    ¬s.shut (tableLink k) := by
  rintro ⟨-, tables⟩
  obtain ⟨-, -, j, slot, clear⟩ := searched
  obtain ⟨faulted, apart⟩ := tables k rfl
  have here := tableOfSlot_eq_some bound
  have other : j ≠ k := fun same => by rw [same, faulted] at clear; exact Bool.noConfusion clear
  have slots := Table.forall_of_ne (P := fun m => (s.tables.get m).slot = some i) other slot here
  rcases apart with none | differ
  · exact absurd ((slots .a).symm.trans none) nofun
  · exact differ ((slots .a).trans (slots .b).symm)

theorem routine_createToken (searched : s.mayBeSearched t i) : Routine s (createToken n d t u i r c x cls g s) := by
  have granted : Routine s (grantedState n d t u i r c x cls g s) := routine_grantedState
  rw [createToken_eq]
  cases bound : s.tableOfSlot i with
  | none => exact granted
  | some k =>
    refine granted.trans (routine_sendOrder (fun shut => ?_) _ _)
    obtain ⟨tables, links, -⟩ := grantedState_frame n d t u i r c x cls g s
    rw [State.shut, tables, links] at shut
    exact not_shut_of_mayBeSearched searched bound shut

theorem mayBeSearched_of_search_found {wanted : Option Group} (found : search t wanted s = .found i r c x cls g) :
    s.mayBeSearched t i := by
  rcases search_cases t wanted s with ⟨-, ended⟩ | ⟨j, slot, ⟨w, -, ended⟩ | ⟨-, ended⟩ | ⟨-, -, ended⟩⟩
  case inr.inl =>
    cases found.symm.trans ended
    exact State.mayBeSearched_of_searchedSlot slot
  all_goals exact absurd (found.symm.trans ended) nofun

theorem routine_grantEnd {wanted : Option Group} {result : SearchResult} (ended : search t wanted s = result) (s' : State) :
    Routine s ((grantEnd n d u t s result).left s') := by
  cases result with
  | found i r c x cls g => exact routine_createToken (mayBeSearched_of_search_found ended)
  | unmounted => exact routine_searchFailed n t .unmounted s
  | noDie i => exact routine_searchFailed n t (.noDie i) s
  | groupOnly => exact routine_searchFailed n t .groupOnly s

theorem routine_grantLane (n : Lane) (s : State) : Routine s ((grantLane n s).left s) := by
  rcases grantLane_cases n s with noRoom | ⟨d, u, p, ended⟩
  · rw [noRoom]
    exact .refl s
  · rw [ended]
    have marked : Routine s { s with searchAgain := s.searchAgain.set n false } := .of_frame
    exact marked.trans (routine_grantEnd rfl s)

/-- What every grant keeps, and a change followed by a grant, the arbiter keeps. -/
theorem arbitrate_keeps {R : State → State → Prop} (refl : ∀ s, R s s) (trans : ∀ {s t u}, R s t → R t u → R s u)
    (grant : ∀ n s, R s ((grantLane n s).left s)) (s : State) : R s (arbitrate s) := by
  by_cases idle : s.picker.state = .idle
  case neg =>
    rw [arbitrate, if_neg idle]
    exact refl s
  cases chosen : s.chosenLane with
  | none =>
    rw [arbitrate_of_not_chosen chosen]
    exact refl s
  | some n =>
    have first := grant n s
    cases ended : grantLane n s with
    | noRoom =>
      rw [arbitrate_noRoom idle chosen ended]
      exact refl s
    | created t =>
      rw [arbitrate_created idle chosen ended]
      rw [ended] at first
      exact first
    | failed t =>
      rw [arbitrate_failed idle chosen ended]
      rw [ended] at first
      split
      · exact trans first (grant (otherLane n) t)
      · exact first

theorem routine_newWork (s : State) : Routine s (newWork s) :=
  (routine_loadStripDue s).trans (arbitrate_keeps .refl .trans routine_grantLane _)

end NewWork

/-! ## Production control -/

/-- What production control does by itself: it may move the cell. -/
structure Controlled (s t : State) : Prop extends Steady s t, Unrecorded s t

section Control

variable {s t u : State}

theorem Controlled.trans (h : Controlled s t) (g : Controlled t u) : Controlled s u :=
  ⟨h.toSteady.trans g.toSteady, h.toUnrecorded.trans g.toUnrecorded⟩

theorem Routine.controlled (h : Routine s t) : Controlled s t := ⟨h.toSteady, h.toUnrecorded⟩

/-- A move of the cell. -/
theorem controlled_cell (s : State) (c : Control) : Controlled s { s with control := c } := ⟨.of_frame, .of_frame⟩

theorem controlled_enterHolding (c : HoldCause) (s : State) : Controlled s (enterHolding c s) :=
  (controlled_cell s _).trans ((routine_endWait .one _).trans (routine_endWait .two _)).controlled

theorem controlled_autoHold (s0 s : State) : Controlled s (autoHold s0 s) := by
  have same : Controlled s s := (Routine.refl s).controlled
  unfold autoHold
  dsimp only
  split
  · split
    · exact controlled_enterHolding _ s
    · split
      · split
        · exact controlled_enterHolding _ s
        · exact same
      · split
        · exact controlled_enterHolding _ s
        · exact same
  · exact same

theorem routine_reassignDue (s : State) : Routine s (reassignDue s) := by
  unfold reassignDue
  split
  · exact .of_frame
  · exact .refl s

theorem routine_endWaitDue (n : Lane) (s : State) : Routine s (endWaitDue n s) := by
  unfold endWaitDue
  split
  · exact routine_endWait n s
  · exact .refl s

theorem routine_reassignStep (s : State) : Routine s (reassignStep s) :=
  ((routine_reassignDue s).trans (routine_endWaitDue .one _)).trans (routine_endWaitDue .two _)

theorem controlled_heldDue (s : State) : Controlled s (heldDue s) := by
  unfold heldDue
  split
  · exact (controlled_cell s _).trans (routine_raise _ _).controlled
  · exact (Routine.refl s).controlled

theorem controlled_stoppedDue (s : State) : Controlled s (stoppedDue s) := by
  unfold stoppedDue
  split
  · exact controlled_cell s _
  · exact (Routine.refl s).controlled

theorem control_eq (s0 s : State) : control s0 s = stoppedDue (heldDue (reassignStep (autoHold s0 s))) := rfl

theorem controlled_control (s0 s : State) : Controlled s (control s0 s) := by
  rw [control_eq]
  exact (((controlled_autoHold s0 s).trans (routine_reassignStep _).controlled).trans (controlled_heldDue _)).trans
    (controlled_stoppedDue _)

end Control

/-- Settles O56: the owners, production control and new work write no record, each by what it calls. -/
theorem consequencesWriteNoRecord : Obligations.ConsequencesWriteNoRecord := by
  intro s0 s moving
  have kept : Unrecorded s (closeEvent s0 s) :=
    ((routine_owners moving).controlled.trans ((controlled_control s0 _).trans (routine_newWork _).controlled)).toUnrecorded
  exact ⟨kept.records, kept.serial, kept.overwritten, kept.monitors, kept.tokens⟩

end Sys2Proof.Machine

/-! RUN, HOLD and the automatic holds (RunAndHold). -/

namespace Sys2Proof.Machine

/-! ## RUN (R154) -/

/-- The lanes allow RUN by the gating (R154). -/
def State.lanesAllow (s : State) : Prop :=
  s.usable .one = true ∧ s.usable .two = true ∨
    s.control.gating = .any ∧ (s.usable .one = true ∨ s.usable .two = true)

theorem State.mayRun_iff {s : State} : s.mayRun = true ↔
    s.links.pk.state = .up ∧ s.links.ix.state = .up ∧ s.lanesAllow ∧ s.strip.state ≠ .loading ∧
      s.strip.state ≠ .ejecting := by
  unfold State.mayRun State.lanesAllow
  cases s.control.gating with
  | all =>
    simp only [Bool.and_eq_true, decide_eq_true_iff, and_assoc, reduceCtorEq, false_and, or_false]
  | any =>
    have either : s.usable .one = true ∧ s.usable .two = true ∨ s.usable .one = true ∨ s.usable .two = true ↔
        s.usable .one = true ∨ s.usable .two = true := or_iff_right_of_imp fun both => .inl both.1
    simp only [Bool.and_eq_true, Bool.or_eq_true, decide_eq_true_iff, and_assoc, true_and, either]

theorem runCmd_acts {s : State} (resting : s.control.cell = .stopped ∨ s.control.cell = .held) (may : s.mayRun = true) :
    runCmd [] s = .acts { s with control := { s.control with cell := .running, holdCause := none } } [] :=
  if_pos ⟨resting, may⟩

theorem runCmd_refused {s : State} (refused : ¬((s.control.cell = .stopped ∨ s.control.cell = .held) ∧ s.mayRun = true)) :
    runCmd [] s = .refused .wrongState [] :=
  if_neg refused

/-! ## The automatic holds (R157) -/

section Holds

variable {s0 s : State}

/-- PK or IX has left UP since the event began. -/
def State.lostLink (s0 s : State) : Prop := leftUp s0 s .pk = true ∨ leftUp s0 s .ix = true

/-- A lane has become unusable in a way that holds the cell by the gating. -/
def State.lostLane (s0 s : State) : Prop :=
  s.control.gating = .all ∧ (becameUnusable s0 s .one = true ∨ becameUnusable s0 s .two = true) ∨
    s.control.gating = .any ∧ (becameUnusable s0 s .one = true ∧ s.usable .two = false ∨
      becameUnusable s0 s .two = true ∧ s.usable .one = false)

theorem leftUp_iff {l : Link} :
    leftUp s0 s l = true ↔ (s0.links.get l).state = .up ∧ (s.links.get l).state ≠ .up := by
  simp only [leftUp, Bool.and_eq_true, decide_eq_true_iff]

theorem becameUnusable_iff {n : Lane} : becameUnusable s0 s n = true ↔ s0.usable n = true ∧ s.usable n = false := by
  simp only [becameUnusable, Bool.and_eq_true, Bool.not_eq_true']

theorem autoHold_link (running : s.control.cell = .running) (lost : s0.lostLink s) :
    autoHold s0 s = enterHolding .link s := by
  refine (if_pos running).trans (if_pos ?_)
  rw [Bool.or_eq_true]
  exact lost

/-- The test of the lanes that production control makes by the gating. -/
def laneTest (s0 s : State) : Gating → Bool
  | .all => becameUnusable s0 s .one || becameUnusable s0 s .two
  | .any => becameUnusable s0 s .one && !s.usable .two || becameUnusable s0 s .two && !s.usable .one

theorem laneTest_iff : laneTest s0 s s.control.gating = true ↔ s0.lostLane s := by
  unfold State.lostLane
  cases s.control.gating with
  | all => simp only [laneTest, Bool.or_eq_true, true_and, reduceCtorEq, false_and, or_false]
  | any =>
    simp only [laneTest, Bool.or_eq_true, Bool.and_eq_true, Bool.not_eq_true', true_and, reduceCtorEq, false_and, false_or]

/-- With PK and IX as they were, the lanes decide. -/
theorem autoHold_of_links_kept (running : s.control.cell = .running) (kept : ¬s0.lostLink s) :
    autoHold s0 s = if laneTest s0 s s.control.gating then enterHolding .lane s else s := by
  refine ((if_pos running).trans (if_neg ?_)).trans ?_
  · rw [Bool.or_eq_true]
    exact kept
  · dsimp only
    split
    next gating => rw [gating, laneTest]
    next gating => rw [gating, laneTest]

theorem autoHold_lane (running : s.control.cell = .running) (kept : ¬s0.lostLink s) (lost : s0.lostLane s) :
    autoHold s0 s = enterHolding .lane s := by
  rw [autoHold_of_links_kept running kept, if_pos (laneTest_iff.2 lost)]

theorem autoHold_none (running : s.control.cell = .running) (kept : ¬s0.lostLink s) (able : ¬s0.lostLane s) :
    autoHold s0 s = s := by
  rw [autoHold_of_links_kept running kept, if_neg ((not_congr laneTest_iff).2 able)]

theorem enterHolding_cell (c : HoldCause) (s : State) :
    (enterHolding c s).control.cell = .holding ∧ (enterHolding c s).control.holdCause = some c := by
  rw [enterHolding, endWait_frame .two, endWait_frame .one]
  exact ⟨rfl, rfl⟩

/-- The cell is held, or on the way to it, by a cause. -/
def State.heldBy (s : State) (c : HoldCause) : Prop :=
  s.control.holdCause = some c ∧ (s.control.cell = .holding ∨ s.control.cell = .held)

theorem Steered.heldBy {t : State} {c : HoldCause} (kept : Steered s t) (held : s.heldBy c) : t.heldBy c := by
  rw [State.heldBy, kept.holdCause, kept.cell]
  exact held

theorem heldBy_heldDue {c : HoldCause} (held : s.heldBy c) : (heldDue s).heldBy c := by
  unfold heldDue
  split
  · exact Steered.heldBy (routine_raise _ _).toSteered ⟨held.1, .inr rfl⟩
  · exact held

/-- Once the cell is HOLDING, production control goes no further than HELD (R156, R159). -/
theorem heldBy_control {c : HoldCause} (hold : autoHold s0 s = enterHolding c s) : (control s0 s).heldBy c := by
  obtain ⟨holding, cause⟩ := enterHolding_cell c s
  have entered : (heldDue (reassignStep (enterHolding c s))).heldBy c :=
    heldBy_heldDue ((routine_reassignStep _).toSteered.heldBy ⟨cause, .inl holding⟩)
  have moving : (heldDue (reassignStep (enterHolding c s))).control.cell ≠ .stopping := by
    rcases entered.2 with cell | cell
    · rw [cell]; decide
    · rw [cell]; decide
  rw [control_eq, hold, stoppedDue_of_not_stopping moving]
  exact entered

/-- A RUNNING cell that nothing holds stays RUNNING. -/
theorem control_of_kept (running : s.control.cell = .running) (kept : autoHold s0 s = s) :
    (control s0 s).control.cell = .running := by
  have cell : (reassignStep s).control.cell = .running := (routine_reassignStep s).cell.trans running
  have notHolding : (reassignStep s).control.cell ≠ .holding := by rw [cell]; decide
  have notStopping : (reassignStep s).control.cell ≠ .stopping := by rw [cell]; decide
  rw [control_eq, kept, heldDue_of_not_holding notHolding, stoppedDue_of_not_stopping notStopping]
  exact cell

theorem heldBy_closeEvent {c : HoldCause} (hold : autoHold s0 (owners s) = enterHolding c (owners s)) :
    (closeEvent s0 s).heldBy c :=
  (routine_newWork _).toSteered.heldBy (heldBy_control hold)

section Event

variable (running : s.control.cell = .running)

include running

theorem owners_running : Steered s (owners s) :=
  (routine_owners (by rw [running]; decide)).toSteered

theorem lostLink_owners : s0.lostLink (owners s) ↔ s0.lostLink s := by
  simp only [State.lostLink, (owners_running running).leftUp]

theorem lostLane_owners : s0.lostLane (owners s) ↔ s0.lostLane s := by
  simp only [State.lostLane, becameUnusable, (owners_running running).usable, (owners_running running).gating]

theorem closeEvent_lostLink (lost : s0.lostLink s) : (closeEvent s0 s).heldBy .link :=
  heldBy_closeEvent (autoHold_link ((owners_running running).cell.trans running) ((lostLink_owners running).2 lost))

theorem closeEvent_lostLane (kept : ¬s0.lostLink s) (lost : s0.lostLane s) : (closeEvent s0 s).heldBy .lane :=
  heldBy_closeEvent (autoHold_lane ((owners_running running).cell.trans running)
    ((not_congr (lostLink_owners running)).2 kept) ((lostLane_owners running).2 lost))

theorem closeEvent_running (kept : ¬s0.lostLink s) (able : ¬s0.lostLane s) :
    (closeEvent s0 s).control.cell = .running := by
  have still := (owners_running running).cell.trans running
  have unheld := autoHold_none still ((not_congr (lostLink_owners running)).2 kept)
    ((not_congr (lostLane_owners running)).2 able)
  rw [closeEvent, (routine_newWork _).cell]
  exact control_of_kept still unheld

end Event

end Holds

/-- Settles O44: RUN and HOLD by the cell and RUN's checks, then the automatic holds. -/
theorem runAndHold : Obligations.RunAndHold := by
  intro tag s on
  refine ⟨fun resting pk ix lanes strip => ?acts, fun refused => ?refused, fun running => ?hold, fun holding => ?held,
    fun stopped => ?notRunning, fun s0 running => ?auto⟩
  case acts =>
    refine live_acts (kind := 80) on (runCmd_acts resting (State.mayRun_iff.2 ⟨pk, ix, lanes, ?_, ?_⟩))
    · rcases strip with state | state
      · rw [state]; decide
      · rw [state]; decide
    · rcases strip with state | state
      · rw [state]; decide
      · rw [state]; decide
  case refused =>
    refine live_refused (kind := 80) on (runCmd_refused ?_)
    rintro ⟨resting, may⟩
    obtain ⟨pk, ix, lanes, notLoading, notEjecting⟩ := State.mayRun_iff.1 may
    rcases refused with cell | cell | cell | noPk | noIx | loading | ejecting | ⟨all, unusable⟩ | ⟨any, one, two⟩
    · rw [cell] at resting; exact resting.elim nofun nofun
    · rw [cell] at resting; exact resting.elim nofun nofun
    · rw [cell] at resting; exact resting.elim nofun nofun
    · exact noPk pk
    · exact noIx ix
    · exact notLoading loading
    · exact notEjecting ejecting
    · rcases lanes with ⟨one, two⟩ | ⟨any, -⟩
      · rw [one, two] at unusable
        exact unusable.elim nofun nofun
      · exact absurd (all.symm.trans any) nofun
    · rw [State.lanesAllow, one, two] at lanes
      exact lanes.elim (fun both => Bool.noConfusion both.1) fun either => either.2.elim nofun nofun
  case hold =>
    refine live_acts (kind := 81) on ?_
    simp only [holdCmd, readNothing, running]
    rfl
  case held =>
    refine live_answers (kind := 81) on ?_
    rcases holding with cell | cell
    · simp only [holdCmd, readNothing, cell]
    · simp only [holdCmd, readNothing, cell]
  case notRunning =>
    refine live_refused (kind := 81) (r := .wrongState) (values := []) on ?_
    rcases stopped with cell | cell
    · simp only [holdCmd, readNothing, cell]
    · simp only [holdCmd, readNothing, cell]
  case auto =>
    intro gone out laneHold heldBy
    have link : gone .pk ∨ gone .ix ↔ s0.lostLink s := (or_congr leftUp_iff leftUp_iff).symm
    have lane : laneHold ↔ s0.lostLane s := by
      simp only [State.lostLane, becameUnusable_iff]
      exact Iff.rfl
    rw [link, lane]
    exact ⟨closeEvent_lostLink running, closeEvent_lostLane running, closeEvent_running running⟩

end Sys2Proof.Machine

/-! Reports that do not answer the order they are taken for (FaultsOfALink). -/

namespace Sys2Proof.Machine

/-! ## A report that does not fit (R176) -/

section Unfit

variable {l : Link} {k : OrderKind} {n : Byte} {s : State}

theorem takeReport_unfit {fits : OrderKind → Bool} {f : State → State} (awaited : s.awaits l k n)
    (unfit : ¬fits k = true) : takeReport l n fits f s = stationError l none s := by
  have received := State.receives_of_awaits awaited
  obtain ⟨up, -, outstanding⟩ := awaited
  simp only [takeReport, received, outstanding, up, unfit, and_self, if_true, if_false, Bool.false_eq_true]

theorem bonderReport_unfit {fits : Lane → OrderKind → State → Bool} {f : Lane → State → State}
    (awaited : s.awaits l k n) (unfit : ∀ m, bonderLink m = l → ¬fits m k s = true) :
    bonderReport l n fits f s = stationError l none s := by
  cases l with
  | b1 => exact takeReport_unfit (fits := fun k => fits .one k s) awaited (unfit .one rfl)
  | b2 => exact takeReport_unfit (fits := fun k => fits .two k s) awaited (unfit .two rfl)
  | _ => exact takeReport_unfit (fits := fun _ => false) (f := fun t => t) awaited Bool.false_ne_true

/-- The row of a report that does not fit faults the link (R176). -/
theorem live_unfit {g : State → State} {fits : OrderKind → Bool} {f : State → State} (on : s.powered = true)
    (event : g s = takeReport l n fits f s) (awaited : s.awaits l k n) (unfit : ¬fits k = true) :
    live g s = .next (stationError l none s) := by
  rw [live_on on, event, takeReport_unfit awaited unfit]

theorem live_bonderUnfit {g : State → State} {fits : Lane → OrderKind → State → Bool} {f : Lane → State → State}
    (on : s.powered = true) (event : g s = bonderReport l n fits f s) (awaited : s.awaits l k n)
    (unfit : ∀ m, bonderLink m = l → ¬fits m k s = true) : live g s = .next (stationError l none s) := by
  rw [live_on on, event, bonderReport_unfit awaited unfit]

theorem bonderLink_inj {m m' : Lane} (same : bonderLink m = bonderLink m') : m = m' := by
  cases m <;> cases m' <;> cases same <;> rfl

end Unfit

/-! ## What a report asks of its order, its owner and its parameters -/

section Fits

variable {s : State}

theorem State.pickerIn_state {p : PickerState} (fit : s.pickerIn p = true) : s.picker.state = p := by
  rw [State.pickerIn, Bool.and_eq_true, decide_eq_true_iff] at fit
  exact fit.1

theorem flagOf_eq_none {b : Byte} (high : 2 ≤ b.toNat) : flagOf b = none := by
  unfold flagOf
  split
  · omega
  · omega
  · rfl

theorem visionOf_eq_none {b : Byte} (high : 2 ≤ b.toNat) : visionOf b = none := by
  unfold visionOf
  split
  · omega
  · omega
  · rfl

theorem readIdOf_eq_none {state : Byte} {id : Text} (bad : 2 ≤ state.toNat ∨ state = 0 ∧ isText 12 id = false) :
    readIdOf state id = none := by
  rcases bad with high | ⟨rfl, unprintable⟩
  · unfold readIdOf
    split
    · omega
    · omega
    · rfl
  · exact if_neg (Bool.eq_false_iff.1 unprintable)

end Fits

/-! ## The reports, row by row -/

section Rows

variable {l : Link} {k : OrderKind} {n : Byte} {s : State} (on : s.powered = true)

include on

theorem waferIn_unfit {state : Byte} {id : Text} (awaited : s.awaits l k n)
    (bad : k ≠ .loadWafer ∨ 2 ≤ state.toNat ∨ state = 0 ∧ isText 12 id = false) :
    exec (.waferIn l n state id) s = .next (stationError l none s) := by
  refine live_unfit (g := waferInEvent l n state id) on rfl awaited fun fit => ?_
  rw [Bool.and_eq_true, decide_eq_true_iff] at fit
  obtain ⟨kind, range⟩ := fit
  rcases bad with other | bad
  · exact other kind
  · rw [readIdOf_eq_none bad] at range
    exact Bool.noConfusion range

theorem picked_unfit (awaited : s.awaits l k n) (bad : k ≠ .pick ∨ s.picker.state ≠ .picking) :
    exec (.picked l n) s = .next (stationError l none s) ∧ exec (.pickFail l n) s = .next (stationError l none s) := by
  have unfit : ¬(decide (k = .pick) && s.pickerIn .picking) = true := fun fit => by
    rw [Bool.and_eq_true, decide_eq_true_iff] at fit
    exact bad.elim (· fit.1) (· (State.pickerIn_state fit.2))
  exact ⟨live_unfit (g := pickedEvent l n) on rfl awaited unfit,
    live_unfit (g := pickFailEvent l n) on rfl awaited unfit⟩

theorem put_unfit (awaited : s.awaits l k n) (bad : k ≠ .put ∨ s.picker.state ≠ .putting) :
    exec (.putDone l n) s = .next (stationError l none s) ∧ exec (.dropped l n) s = .next (stationError l none s) := by
  have unfit : ¬(decide (k = .put) && s.pickerIn .putting) = true := fun fit => by
    rw [Bool.and_eq_true, decide_eq_true_iff] at fit
    exact bad.elim (· fit.1) (· (State.pickerIn_state fit.2))
  exact ⟨live_unfit (g := putDoneEvent l n) on rfl awaited unfit,
    live_unfit (g := droppedEvent l n) on rfl awaited unfit⟩

theorem purgedOnPk_unfit (awaited : s.awaits .pk k n) (bad : k ≠ .purge ∨ s.picker.state ≠ .purging) :
    exec (.purgedOnPk n) s = .next (stationError .pk none s) ∧ exec (.purged .pk n) s = .next (stationError .pk none s) := by
  have unfit : ¬(decide (k = .purge) && s.pickerIn .purging) = true := fun fit => by
    rw [Bool.and_eq_true, decide_eq_true_iff] at fit
    exact bad.elim (· fit.1) (· (State.pickerIn_state fit.2))
  have error : exec (.purgedOnPk n) s = .next (stationError .pk none s) :=
    live_unfit (g := purgedPkEvent n) on rfl awaited unfit
  exact ⟨error, error⟩

theorem waferOut_unfit (awaited : s.awaits l k n) (other : k ≠ .unloadWafer) :
    exec (.waferOut l n) s = .next (stationError l none s) :=
  live_unfit (g := waferOutEvent l n) on rfl awaited fun fit => other (of_decide_eq_true fit)

theorem stepped_unfit (awaited : s.awaits l k n) (other : k ≠ .step) :
    exec (.stepped l n) s = .next (stationError l none s) :=
  live_unfit (g := steppedEvent l n) on rfl awaited fun fit => other (of_decide_eq_true fit)

theorem ejected_unfit (awaited : s.awaits l k n) (other : k ≠ .ejectStrip) :
    exec (.ejected l n) s = .next (stationError l none s) :=
  live_unfit (g := ejectedEvent l n) on rfl awaited fun fit => other (of_decide_eq_true fit)

theorem abortedIx_unfit {holds : Byte} (awaited : s.awaits .ix k n) (other : k ≠ .abort) :
    exec (.abortedIx n holds) s = .next (stationError .ix none s) :=
  live_unfit (g := abortedIxEvent n) on rfl awaited fun fit => other (of_decide_eq_true fit)

theorem arrived_unfit {id : Text} {code count : Byte} {pitch : BitVec 16} {xouts : List (Byte × Byte)}
    (awaited : s.awaits l k n) (bad : k ≠ .loadStrip ∨ isText 12 id = false ∨ 12 < count.toNat) :
    exec (.arrived l n id code pitch count xouts) s = .next (stationError l none s) := by
  refine live_unfit (g := arrivedEvent l n id code pitch count xouts) on rfl awaited fun fit => ?_
  rw [Bool.and_eq_true, Bool.and_eq_true, decide_eq_true_iff, decide_eq_true_iff] at fit
  obtain ⟨⟨kind, printable⟩, few⟩ := fit
  rcases bad with other | unprintable | many
  · exact other kind
  · exact Bool.noConfusion (printable.symm.trans unprintable)
  · exact absurd few (Nat.not_le.2 many)

theorem abortedTable_unfit {m : Table} {holds : Byte} (awaited : s.awaits (tableLink m) k n)
    (bad : k ≠ .abort ∨ 2 ≤ holds.toNat) : exec (.abortedTable m n holds) s = .next (stationError (tableLink m) none s) := by
  refine live_unfit (g := abortedTableEvent m n holds) on rfl awaited fun fit => ?_
  rw [Bool.and_eq_true, decide_eq_true_iff] at fit
  obtain ⟨kind, range⟩ := fit
  rcases bad with other | high
  · exact other kind
  · rw [flagOf_eq_none high] at range
    exact Bool.noConfusion range

theorem abortedPk_unfit {holds : Byte} (awaited : s.awaits .pk k n)
    (bad : k ≠ .abort ∨ s.picker.state ≠ .aborting ∨ 2 ≤ holds.toNat) :
    exec (.abortedPk n holds) s = .next (stationError .pk none s) := by
  refine live_unfit (g := abortedPkEvent n holds) on rfl awaited fun fit => ?_
  rw [Bool.and_eq_true, Bool.and_eq_true, decide_eq_true_iff] at fit
  obtain ⟨⟨kind, aborting⟩, range⟩ := fit
  rcases bad with other | state | high
  · exact other kind
  · exact state (State.pickerIn_state aborting)
  · rw [flagOf_eq_none high] at range
    exact Bool.noConfusion range

theorem abortedBonder_unfit {m : Lane} {holds : Byte} (awaited : s.awaits (bonderLink m) k n)
    (bad : k ≠ .abort ∨ (s.lanes.get m).collet ≠ .aborting ∨ 2 ≤ holds.toNat) :
    exec (.abortedBonder m n holds) s = .next (stationError (bonderLink m) none s) := by
  refine live_unfit (g := abortedBonderEvent m n holds) on rfl awaited fun fit => ?_
  rw [Bool.and_eq_true, Bool.and_eq_true, decide_eq_true_iff, decide_eq_true_iff] at fit
  obtain ⟨⟨kind, aborting⟩, range⟩ := fit
  rcases bad with other | state | high
  · exact other kind
  · exact state aborting
  · rw [flagOf_eq_none high] at range
    exact Bool.noConfusion range

/-! A report of the bonders answers an order of its kind while its lane's collet stands as it must. -/

/-- The order is of another kind than `K`, or the collet of the link's lane is not in `c`. -/
def State.colletUnfit (s : State) (l : Link) (k K : OrderKind) (c : ColletState) : Prop :=
  k ≠ K ∨ ∀ m, bonderLink m = l → (s.lanes.get m).collet ≠ c

omit on in
theorem State.colletUnfit_bonderLink {K : OrderKind} {c : ColletState} {m : Lane}
    (bad : k ≠ K ∨ (s.lanes.get m).collet ≠ c) : s.colletUnfit (bonderLink m) k K c :=
  bad.imp id fun state _ same => bonderLink_inj same ▸ state

theorem taken_unfit (awaited : s.awaits l k n) (bad : s.colletUnfit l k .take .taking) :
    exec (.taken l n) s = .next (stationError l none s) := by
  refine live_bonderUnfit (g := takenEvent l n) on rfl awaited fun m lane fit => ?_
  rw [Bool.and_eq_true, Bool.and_eq_true, decide_eq_true_iff, decide_eq_true_iff] at fit
  exact bad.elim (· fit.1.1) (· m lane fit.1.2)

theorem touched_unfit (awaited : s.awaits l k n) (bad : s.colletUnfit l k .bond .bonding) :
    exec (.touched l n) s = .next (stationError l none s) := by
  refine live_bonderUnfit (g := touchedEvent l n) on rfl awaited fun m lane fit => ?_
  rw [Bool.and_eq_true, decide_eq_true_iff, decide_eq_true_iff] at fit
  exact bad.elim (· fit.1) (· m lane fit.2)

theorem bonded_unfit {dx dy rotation : BitVec 16} {vision : Byte} (awaited : s.awaits l k n)
    (bad : s.colletUnfit l k .bond .dwell ∨ 2 ≤ vision.toNat) :
    exec (.bonded l n dx dy rotation vision) s = .next (stationError l none s) := by
  refine live_bonderUnfit (g := bondedEvent l n dx dy rotation vision) on rfl awaited fun m lane fit => ?_
  rw [Bool.and_eq_true, Bool.and_eq_true, Bool.and_eq_true, decide_eq_true_iff, decide_eq_true_iff] at fit
  obtain ⟨⟨⟨kind, dwell⟩, range⟩, -⟩ := fit
  rcases bad with bad | high
  · exact bad.elim (· kind) (· m lane dwell)
  · rw [visionOf_eq_none high] at range
    exact Bool.noConfusion range

omit on in
theorem purgedEvent_of_ne (notPicker : l ≠ .pk) : purgedEvent l n s = bonderReport l n
    (fun n k s => decide (k = .purge) && decide ((s.lanes.get n).collet = .purging))
    (fun m => completing l (purgedEffect m)) s := by
  cases l with
  | pk => exact absurd rfl notPicker
  | _ => rfl

theorem purged_unfit_of_ne (notPicker : l ≠ .pk) (awaited : s.awaits l k n) (bad : s.colletUnfit l k .purge .purging) :
    exec (.purged l n) s = .next (stationError l none s) := by
  refine live_bonderUnfit (g := purgedEvent l n) on (purgedEvent_of_ne notPicker) awaited fun m lane fit => ?_
  rw [Bool.and_eq_true, decide_eq_true_iff, decide_eq_true_iff] at fit
  exact bad.elim (· fit.1) (· m lane fit.2)

theorem purged_unfit_of_kind (awaited : s.awaits l k n) (other : k ≠ .purge) :
    exec (.purged l n) s = .next (stationError l none s) := by
  by_cases picker : l = .pk
  · subst picker
    exact (purgedOnPk_unfit on awaited (.inl other)).2
  · exact purged_unfit_of_ne on picker awaited (.inl other)

end Rows

/-! ## STATION-ERROR and the watchdog (R176, R177) -/

theorem stationErrorEvent_of_awaits {l : Link} {k : OrderKind} {n : Byte} {s : State} (awaited : s.awaits l k n)
    (code : Byte) : stationErrorEvent l n code s = stationError l (some code) s :=
  takeReport_of_awaits _ awaited rfl

theorem watchdogExpiryEvent_running {l : Link} {s : State} (runs : (s.links.get l).watchdog.isSome = true) :
    watchdogExpiryEvent l s = linkFault l .timeout s := if_pos runs

theorem watchdogExpiryEvent_off {l : Link} {s : State} (off : (s.links.get l).watchdog = none) :
    watchdogExpiryEvent l s = s := if_neg (by rw [off]; exact Bool.false_ne_true)

end Sys2Proof.Machine

/-! A link's entry into FAULT: what the owners' dispositions keep, and what new work tells (FaultsOfALink). -/

namespace Sys2Proof.Machine

/-! ## The end of a die is steered -/

section Dispose

variable (t : Token) (s : State)

theorem Steered.refl : Steered s s := .of_frame

theorem Routine.steered {s u : State} (h : Routine s u) : Steered s u := h.toSteered

theorem steered_updLane {f : LaneRec → LaneRec} (n : Lane)
    (kept : ∀ r, (f r).enable = r.enable ∧ (f r).degraded = r.degraded) : Steered s (s.updLane n f) :=
  (routine_updLane n kept).steered

theorem steered_settlePosition (st : PosState) : Steered s (settlePosition t st s) := by
  unfold settlePosition
  split
  · exact .of_frame
  · split
    · exact .of_frame
    · exact .of_frame

theorem steered_createRecord (fate : Fate) (lane : Option Lane) (ctx : Option BondContext) (bond : Option BondFields) :
    Steered s (createRecord t fate lane ctx bond s) := by
  unfold createRecord
  rw [syncLog_frame]
  exact .of_frame

theorem steered_removeToken : Steered s (removeToken t s) :=
  Steered.trans (t := { s with tokens := s.tokens.filter fun u => decide (u.place ≠ t.place) }) .of_frame
    (routine_stripDoneDue _).steered

theorem steered_settleDie (fate : Fate) (lane : Option Lane) (ctx : Option BondContext) (bond : Option BondFields)
    (st : PosState) : Steered s (settleDie t fate lane ctx bond st s) :=
  ((steered_settlePosition t s st).trans (steered_createRecord t _ fate lane ctx bond)).trans (steered_removeToken t _)

theorem steered_returnReservation : Steered s (returnReservation t s) := by
  rw [returnReservation_eq]
  exact .of_frame

theorem steered_releaseToken : Steered s (releaseToken t s) := by
  refine Steered.trans ?_ (steered_removeToken t _)
  refine Steered.trans ?_ (steered_settlePosition t _ .empty)
  refine Steered.trans ?_ (steered_returnReservation t _)
  exact .of_frame

theorem steered_setPicker (p : PickerState) : Steered s (setPicker p s) := .of_frame

theorem steered_setSite (st : SiteState) : Steered s (setSite t st s) := .of_frame

theorem steered_endStep : Steered s (endStep s) := by
  unfold endStep
  split
  · refine Steered.trans ?_ (steered_setPicker _ _)
    split
    · exact .refl s
    · exact steered_releaseToken _ s
  · exact .refl s

end Dispose

/-! ## The owners' dispositions (R48, R56, R84, R102, R124, R125) -/

section Lost

variable (s : State)

theorem steered_blockReceiving (n : Lane) : Steered s (blockReceiving n s) := by
  refine steered_updLane s n fun r => ?_
  split <;> exact ⟨rfl, rfl⟩

theorem steered_pickerLost : Steered s (pickerLost s) := by
  unfold pickerLost
  split
  · exact .refl s
  · split
    · exact .refl s
    · exact steered_releaseToken _ s
  all_goals
    refine Steered.trans ?_ (steered_setPicker _ _)
    split
    · exact .refl s
    · exact ((steered_setSite _ s _).trans (steered_settleDie _ _ _ _ _ _ _)).trans (steered_blockReceiving _ _)

theorem steered_abandonDwell (n : Lane) : Steered s (abandonDwell n s) := .of_frame

theorem steered_loseToken (n : Lane) (p : Place) (st : PosState) : Steered s (loseToken n p st s) := by
  unfold loseToken
  split
  · exact .refl s
  · exact steered_settleDie _ s _ _ _ _ _

theorem steered_loseTaking (n : Lane) : Steered s (loseTaking n s) :=
  (steered_loseToken s n _ _).trans (steered_updLane _ n fun _ => ⟨rfl, rfl⟩)

theorem steered_colletLost (n : Lane) : Steered s (colletLost n s) := by
  have dwell := (steered_abandonDwell s n).trans (steered_loseToken _ n (.collet n) .uncertain)
  unfold colletLost
  split
  · exact .refl s
  · exact steered_loseTaking s n
  · exact steered_loseToken s n _ _
  · exact dwell
  · split
    · exact steered_loseToken s n _ _
    · exact .refl s
    · exact .refl s
  · split
    · exact steered_loseTaking s n
    · exact steered_loseToken s n _ _
    · exact dwell
    · exact .refl s

theorem steered_nestLostDue (n : Lane) : Steered s (nestLostDue n s) := by
  unfold nestLostDue
  split
  · split
    · exact .refl s
    · exact (steered_settleDie _ s _ _ _ _ _).trans (steered_updLane _ n fun _ => ⟨rfl, rfl⟩)
  · exact .refl s

theorem steered_laneLost (n : Lane) : Steered s (laneLost n s) := by
  refine Steered.trans (Steered.trans (steered_colletLost s n) ?_) (steered_nestLostDue _ n)
  exact steered_updLane _ n fun _ => ⟨rfl, rfl⟩

theorem steered_stripOrderLost : Steered s (stripOrderLost s) := by
  unfold stripOrderLost
  split
  · exact .of_frame
  · exact .of_frame
  · exact .refl s
  · exact .refl s

theorem steered_raiseLaneOut (l : Link) : Steered s (raiseLaneOut l s) := by
  cases l with
  | b1 => exact (routine_raise _ s).steered
  | b2 => exact (routine_raise _ s).steered
  | _ => exact .refl s

/-- In every state of the cell the owners leave production control alone. -/
theorem steered_owners : Steered s (owners s) :=
  (((routine_unloadDues s).steered.trans (steered_nestLostDue _ .one)).trans (steered_nestLostDue _ .two)).trans
    (routine_nestDues _).steered

end Lost

/-! ## What new work tells -/

section Tells

variable {c : CondId} {s : State}

theorem Conds.get_set_of_ne {t : Conds} {d : CondId} {v : Cond} (other : c ≠ d) : (t.set d v).get c = t.get c :=
  (Conds.get_set t d c v).trans (if_neg other.symm)

theorem raise_conds (d : Detail) (s : State) :
    (raise d s).conds = s.conds.set d.cond { s.conds.get d.cond with detail := some d } := by
  unfold raise
  dsimp only
  split <;> rfl

theorem raise_detail (d : Detail) (s : State) : ((raise d s).conds.get d.cond).detail = some d := by
  rw [raise_conds, Conds.get_set_same]

theorem raise_conds_of_ne {d : Detail} (other : c ≠ d.cond) (s : State) : (raise d s).conds.get c = s.conds.get c := by
  rw [raise_conds, Conds.get_set_of_ne other]

/-- The conditions but UNIT-STARVED and WAFER-EXHAUSTED stand as they did. -/
def SearchTells (s t : State) : Prop :=
  ∀ c, c ≠ .unitStarved → c ≠ .waferExhausted → t.conds.get c = s.conds.get c

theorem SearchTells.refl (s : State) : SearchTells s s := fun _ _ _ => rfl

theorem SearchTells.trans {s t u : State} (h : SearchTells s t) (g : SearchTells t u) : SearchTells s u :=
  fun c starved exhausted => (g c starved exhausted).trans (h c starved exhausted)

theorem SearchTells.of_conds {s t : State} (same : t.conds = s.conds) : SearchTells s t := fun _ _ _ => by rw [same]

theorem searchTells_raise {d : Detail} (tells : d.cond = .unitStarved ∨ d.cond = .waferExhausted) (s : State) :
    SearchTells s (raise d s) := fun _ starved exhausted =>
  raise_conds_of_ne (fun same => tells.elim (starved <| same.trans ·) (exhausted <| same.trans ·)) s

theorem searchTells_syncStarved (s : State) : SearchTells s (syncStarved s) := by
  unfold syncStarved
  split
  · exact fun _ starved _ => Conds.get_set_of_ne starved
  · exact searchTells_raise (.inl rfl) s
  · exact searchTells_raise (.inl rfl) s
  · exact .refl s

theorem searchTells_endWait (n : Lane) (s : State) : SearchTells s (endWait n s) := by
  have freed : SearchTells s (s.updWait n fun _ => .reset) := .of_conds rfl
  unfold endWait
  dsimp only
  split
  · split
    · exact freed.trans (searchTells_syncStarved _)
    · exact freed
  · exact .refl s

theorem searchTells_enterWait (n : Lane) (r : WaitReason) (s : State) : SearchTells s (enterWait n r s) := by
  cases waits : (s.control.waits.get n).waiting with
  | false =>
    rw [enterWait_of_idle waits]
    exact .of_conds rfl
  | true =>
    have kept : SearchTells s (s.waitsOn n r) := .of_conds rfl
    cases starved : (s.control.waits.get n).starved with
    | false =>
      rw [enterWait_silent waits (.inl starved)]
      exact kept
    | true =>
      by_cases same : (s.control.waits.get n).reason = some r
      · rw [enterWait_silent waits (.inr same)]
        exact kept
      · rw [enterWait_told waits starved same]
        exact kept.trans (searchTells_raise (.inl rfl) _)

theorem searchTells_searchFailed (n : Lane) (t : DieType) (r : SearchResult) (s : State) :
    SearchTells s (searchFailed n t r s) := by
  unfold searchFailed
  split
  · refine SearchTells.trans ?_ (searchTells_enterWait n _ _)
    split
    · exact .refl s
    · exact SearchTells.trans (.of_conds rfl) (searchTells_raise (.inr rfl) _)
  all_goals exact searchTells_enterWait n _ s

theorem searchTells_createToken {n : Lane} {d : Dest} {t : DieType} {u : StripUnit} {i : SlotId} {r c : Nat} {x : Site}
    {cls : Nat} {g : Group} : SearchTells s (createToken n d t u i r c x cls g s) := by
  rw [createToken_frame]
  exact SearchTells.trans (.of_conds rfl) (searchTells_endWait n _)

theorem searchTells_grantLane (n : Lane) (s : State) : SearchTells s ((grantLane n s).left s) := by
  rcases grantLane_cases n s with noRoom | ⟨d, u, p, ended⟩
  · rw [noRoom]
    exact .refl s
  · rw [ended]
    have marked : SearchTells s { s with searchAgain := s.searchAgain.set n false } := .of_conds rfl
    refine marked.trans ?_
    cases search p.dieType (s.strip.wantedGroup u) { s with searchAgain := s.searchAgain.set n false } with
    | found i r c x cls g => exact searchTells_createToken
    | unmounted => exact searchTells_searchFailed n p.dieType .unmounted _
    | noDie i => exact searchTells_searchFailed n p.dieType (.noDie i) _
    | groupOnly => exact searchTells_searchFailed n p.dieType .groupOnly _

theorem searchTells_newWork (s : State) : SearchTells s (newWork s) := by
  have loaded : SearchTells s (loadStripDue s) := by
    unfold loadStripDue
    split
    · exact .of_conds rfl
    · exact .refl s
  exact loaded.trans (arbitrate_keeps .refl .trans searchTells_grantLane _)

end Tells

end Sys2Proof.Machine

/-! A link's entry into FAULT as a whole (FaultsOfALink). -/

namespace Sys2Proof.Machine

/-! ## The owner's disposition on a link just faulted (R179) -/

/-- `x` is `s` with the table of a table's link FAULTED, and at most the slots of tables let go. -/
structure Flagged (l : Link) (s x : State) : Prop where
  links : x.links = s.links
  lanes : x.lanes = s.lanes
  control : x.control = s.control
  faulted : ∀ k, tableLink k = l → (x.tables.get k).faulted = true
  slots : ∀ k, (x.tables.get k).slot = (s.tables.get k).slot ∨ (x.tables.get k).slot = none

theorem Flagged.of_not_table {l : Link} (notA : l ≠ .ta) (notB : l ≠ .tb) (s : State) : Flagged l s s := by
  refine ⟨rfl, rfl, rfl, fun k same => ?_, fun _ => .inl rfl⟩
  cases k with
  | a => exact absurd same.symm notA
  | b => exact absurd same.symm notB

theorem tableLink_inj {k m : Table} (same : tableLink k = tableLink m) : k = m := by
  cases k <;> cases m <;> cases same <;> rfl

section Tables

variable {k : Table} {s : State}

theorem flagged_updTable {f : TableRec → TableRec} {t : State} (links : t.links = s.links) (lanes : t.lanes = s.lanes)
    (control : t.control = s.control) (tables : t.tables = (s.updTable k f).tables)
    (faulted : (f (s.tables.get k)).faulted = true)
    (slot : (f (s.tables.get k)).slot = (s.tables.get k).slot ∨ (f (s.tables.get k)).slot = none) :
    Flagged (tableLink k) s t := by
  refine ⟨links, lanes, control, fun m same => ?_, fun m => ?_⟩
  · cases tableLink_inj same
    rw [tables, updTable_get, if_pos rfl]
    exact faulted
  · rw [tables, updTable_get]
    split
    next same => exact same ▸ slot
    next => exact .inl rfl

/-- The slot of a move that the table manager gives up is READY again (R48). -/
def slotReady (o : Option SlotId) (s : State) : State :=
  match o with
  | none => s
  | some i => s.updSlot i fun sl => { sl with state := .ready }

theorem slotReady_frame (o : Option SlotId) (s : State) : slotReady o s = { s with slots := (slotReady o s).slots } := by
  cases o <;> rfl

theorem slotReady_updTable (o : Option SlotId) (f : TableRec → TableRec) :
    slotReady o (s.updTable k f) = (slotReady o s).updTable k f := by
  cases o <;> rfl

/-- A record of a table FAULTED in a move: EMPTY, its slot let go (R48). -/
def TableRec.letGo (r : TableRec) : TableRec :=
  { r with faulted := true, state := .empty, slot := none, unloadWanted := false, ending := none }

variable (k) (ended : Bool) (s)

theorem tableLost_of_moving (moving : (s.tables.get k).state = .loading ∨ (s.tables.get k).state = .unloading) :
    tableLost k ended s = raise (.mountDone k (s.tables.get k).slot .tableFault (s.tables.get k).readId)
      ((slotReady (s.tables.get k).slot s).updTable k TableRec.letGo) := by
  have released : ((slotReady (s.tables.get k).slot (s.updTable k fun r => { r with faulted := true })).updTable k
      fun r => { r with state := .empty, slot := none, unloadWanted := false, ending := none }) =
      (slotReady (s.tables.get k).slot s).updTable k TableRec.letGo := by
    rw [slotReady_updTable, updTable_updTable]
    rfl
  rw [← released, tableLost]
  rcases moving with state | state
  · simp only [state]
    rfl
  · simp only [state]
    rfl

theorem tableLost_of_empty (state : (s.tables.get k).state = .empty) :
    tableLost k ended s = s.updTable k fun r => { r with faulted := true } := by
  simp only [tableLost, state]

theorem tableLost_of_occupied (state : (s.tables.get k).state = .occupied) : tableLost k ended s =
    if ended then endStep (s.updTable k fun r => { r with faulted := true })
    else s.updTable k fun r => { r with faulted := true } := by
  simp only [tableLost, state]

/-- The table manager flags its table, and lets the slot of a move go (R48). -/
theorem tableLost_flagged : ∃ x, Flagged (tableLink k) s x ∧ Steered x (tableLost k ended s) := by
  have flagged : Flagged (tableLink k) s (s.updTable k fun r => { r with faulted := true }) :=
    flagged_updTable rfl rfl rfl rfl rfl (.inl rfl)
  have moved : Flagged (tableLink k) s ((slotReady (s.tables.get k).slot s).updTable k TableRec.letGo) := by
    rw [slotReady_frame]
    exact flagged_updTable (f := TableRec.letGo) rfl rfl rfl rfl rfl (.inr rfl)
  cases state : (s.tables.get k).state with
  | empty => exact ⟨_, flagged, tableLost_of_empty k s ended state ▸ .refl _⟩
  | occupied =>
    refine ⟨_, flagged, ?_⟩
    rw [tableLost_of_occupied k s ended state]
    split
    · exact steered_endStep _
    · exact .refl _
  | loading =>
    refine ⟨_, moved, ?_⟩
    rw [tableLost_of_moving k s ended (.inl state)]
    exact (routine_raise _ _).steered
  | unloading =>
    refine ⟨_, moved, ?_⟩
    rw [tableLost_of_moving k s ended (.inr state)]
    exact (routine_raise _ _).steered

end Tables

theorem ownerLost_flagged (l : Link) (ended : Bool) (s : State) :
    ∃ x, Flagged l s x ∧ Steered x (ownerLost l ended s) := by
  cases l with
  | ta => exact tableLost_flagged .a s ended
  | tb => exact tableLost_flagged .b s ended
  | pk => exact ⟨s, .of_not_table (l := .pk) nofun nofun s, steered_pickerLost s⟩
  | b1 => exact ⟨s, .of_not_table (l := .b1) nofun nofun s, steered_laneLost s .one⟩
  | b2 => exact ⟨s, .of_not_table (l := .b2) nofun nofun s, steered_laneLost s .two⟩
  | ix =>
    cases ended with
    | true => exact ⟨s, .of_not_table (l := .ix) nofun nofun s, steered_stripOrderLost s⟩
    | false => exact ⟨s, .of_not_table (l := .ix) nofun nofun s, .refl s⟩

/-! ## The event (R179) -/

section Fault

variable (l : Link) (c : FaultCause) (s : State)

/-- The link in FAULT, its order ended. -/
def State.faulted (s : State) (l : Link) (c : FaultCause) : State :=
  s.updLink l fun r => { r with
    state := .fault, cause := some c, outstanding := none, watchdog := none, callTimer := none, breakTimer := none }

/-- The owner's disposition and LANE-OUT of a link just faulted. -/
def State.faultTold (s : State) (l : Link) (c : FaultCause) : State :=
  raiseLaneOut l (ownerLost l (s.links.get l).outstanding.isSome (s.faulted l c))

theorem endOrder_fault : ((endOrder l s).updLink l fun r =>
    { r with state := .fault, cause := some c, callTimer := none, breakTimer := none }) = s.faulted l c :=
  updLink_updLink l _ _ s

theorem faulted_link : (s.faulted l c).links.get l = { s.links.get l with
    state := .fault, cause := some c, outstanding := none, watchdog := none, callTimer := none, breakTimer := none } :=
  PerLink.get_set_same _ _ _

theorem faultTold_flagged : ∃ x, Flagged l (s.faulted l c) x ∧ Steered x (s.faultTold l c) := by
  obtain ⟨x, flagged, steered⟩ := ownerLost_flagged l (s.links.get l).outstanding.isSome (s.faulted l c)
  exact ⟨x, flagged, steered.trans (steered_raiseLaneOut _ l)⟩

/-- STATION-FAULT's detail: the link, the cause, the kind of the order ended and the last station error (R179). -/
def State.faultDetail (s : State) (l : Link) (c : FaultCause) : Detail :=
  .stationFault l c ((s.links.get l).outstanding.map (·.kind)) (s.links.get l).lastError

theorem steady_control_owners (s0 t : State) : Steady t (control s0 (owners t)) :=
  (steered_owners t).toSteady.trans (controlled_control s0 _).toSteady

theorem linkFault_eq : linkFault l c s =
    newWork (raise (s.faultDetail l c) (control s (owners (s.faultTold l c)))) := by
  obtain ⟨x, flagged, steered⟩ := faultTold_flagged l c s
  have lastError : ((control s (owners (s.faultTold l c))).links.get l).lastError = (s.links.get l).lastError := by
    rw [((steered.toSteady.trans (steady_control_owners s _)).standing l).2.2, flagged.links, faulted_link]
  rw [State.faultDetail, ← lastError, linkFault, endOrder_fault]
  rfl

theorem linkFault_flagged : ∃ x, Flagged l (s.faulted l c) x ∧ Steady x (linkFault l c s) := by
  obtain ⟨x, flagged, steered⟩ := faultTold_flagged l c s
  refine ⟨x, flagged, ?_⟩
  rw [linkFault_eq]
  exact steered.toSteady.trans ((steady_control_owners s _).trans
    ((routine_raise _ _).toSteady.trans (routine_newWork _).toSteady))

theorem linkFault_standing :
    ((linkFault l c s).links.get l).state = .fault ∧ ((linkFault l c s).links.get l).cause = some c := by
  obtain ⟨x, flagged, steady⟩ := linkFault_flagged l c s
  obtain ⟨state, cause, -⟩ := steady.standing l
  rw [state, cause, flagged.links, faulted_link]
  exact ⟨rfl, rfl⟩

theorem linkFault_detail : ((linkFault l c s).conds.get .stationFault).detail = some (s.faultDetail l c) := by
  rw [linkFault_eq, searchTells_newWork _ .stationFault nofun nofun]
  exact raise_detail (s.faultDetail l c) _

theorem Flagged.shut {l : Link} {t x : State} (flagged : Flagged l t x) (down : (t.links.get l).state ≠ .up)
    (apart : t.tables.a.slot = none ∨ t.tables.a.slot ≠ t.tables.b.slot) : x.shut l := by
  refine ⟨by rw [flagged.links]; exact down, fun k same => ⟨flagged.faulted k same, ?_⟩⟩
  have slotA : x.tables.a.slot = t.tables.a.slot ∨ x.tables.a.slot = none := flagged.slots .a
  have slotB : x.tables.b.slot = t.tables.b.slot ∨ x.tables.b.slot = none := flagged.slots .b
  rcases slotA with keptA | goneA
  case inr => exact .inl goneA
  rw [keptA]
  rcases slotB with keptB | goneB
  · rw [keptB]
    exact apart
  · rw [goneB]
    exact Classical.em _

/-- With no slot shared by the tables, no order goes out on the link in its own fault. -/
theorem linkFault_link (apart : s.tables.a.slot = none ∨ s.tables.a.slot ≠ s.tables.b.slot) :
    (linkFault l c s).links.get l = (s.faulted l c).links.get l := by
  obtain ⟨x, flagged, steady⟩ := linkFault_flagged l c s
  have shut : x.shut l := flagged.shut (by rw [faulted_link]; exact nofun) apart
  rw [steady.shut l shut, flagged.links]

/-- The loss of PK or IX holds a RUNNING cell (R157). -/
theorem linkFault_holds (link : l = .pk ∨ l = .ix) (running : s.control.cell = .running)
    (up : (s.links.get l).state = .up) : (linkFault l c s).heldBy .link := by
  obtain ⟨x, flagged, steered⟩ := faultTold_flagged l c s
  have cell : (s.faultTold l c).control.cell = .running := by
    rw [steered.cell, flagged.control]
    exact running
  have gone : leftUp s (owners (s.faultTold l c)) l = true := by
    rw [(steered_owners _).leftUp, steered.leftUp, leftUp_iff, flagged.links, faulted_link]
    exact ⟨up, nofun⟩
  have lost : s.lostLink (owners (s.faultTold l c)) := by
    rcases link with rfl | rfl
    · exact .inl gone
    · exact .inr gone
  have held := heldBy_control (autoHold_link ((owners_running cell).cell.trans cell) lost)
  rw [linkFault_eq]
  exact ((routine_raise _ _).toSteered.trans (routine_newWork _).toSteered).heldBy held

end Fault

end Sys2Proof.Machine

/-! The owners' dispositions by the states they hold (FaultsOfALink). -/

namespace Sys2Proof.Machine

/-! ## The table manager and the picker (R48, R56, R102) -/

theorem ownerLost_tableLink (k : Table) (ended : Bool) (s : State) :
    ownerLost (tableLink k) ended s = tableLost k ended s := by
  cases k <;> rfl

theorem ownerLost_bonderLink (n : Lane) (ended : Bool) (s : State) : ownerLost (bonderLink n) ended s = laneLost n s := by
  cases n <;> rfl

theorem endStep_of_not_stepping {s : State} (other : s.picker.state ≠ .stepping) : endStep s = s := if_neg other

section Picker

variable {t : Token} {s : State}

theorem pickerLost_idle (idle : s.picker.state = .idle) : pickerLost s = s := by
  simp only [pickerLost, idle]

theorem pickerLost_stepping (stepping : s.picker.state = .stepping) (held : s.tokenAt .picker = some t) :
    pickerLost s = releaseToken t s := by
  simp only [pickerLost, stepping, held]

theorem pickerLost_stepping_alone (stepping : s.picker.state = .stepping) (empty : s.tokenAt .picker = none) :
    pickerLost s = s := by
  simp only [pickerLost, stepping, empty]

theorem pickerLost_lifted (notIdle : s.picker.state ≠ .idle) (notStepping : s.picker.state ≠ .stepping)
    (held : s.tokenAt .picker = some t) : pickerLost s =
      setPicker .idle (blockReceiving t.lane (settleDie t .unknown none none none .empty (setSite t .taken s))) := by
  cases state : s.picker.state with
  | idle => exact absurd state notIdle
  | stepping => exact absurd state notStepping
  | _ => simp only [pickerLost, state, held]

end Picker

/-! ## The lane (R124, R125) -/

section Lane

variable (n : Lane) (s : State)

/-- The origin of a collet's order when its link is lost: the abort's, or what the collet does (R127). -/
def LaneRec.lostOrigin (r : LaneRec) : Option AbortOrigin :=
  if r.collet = .aborting then r.abort else r.collet.origin

/-- The die of a lost order by the order's origin (Table 6-6). -/
def lostHead (n : Lane) (s : State) : Option AbortOrigin → State
  | some .taking => (loseToken n (.nest n) .empty s).updLane n fun x => { x with nest := .blocked }
  | some .bonding => loseToken n (.collet n) .uncertain s
  | some .dwell => loseToken n (.collet n) .uncertain (abandonDwell n s)
  | none =>
    if (s.lanes.get n).collet = .purging ∧ (s.lanes.get n).purge = some .collet then loseToken n (.collet n) .empty s
    else s

/-- A lane's record after its link is lost (R106, R124). -/
def LaneRec.lost (r : LaneRec) : LaneRec :=
  { r with
    collet := .idle, bond := none, purge := none, abort := none, settleTimer := none
    nest := if r.nest = .settling ∨ r.nest = .ready then .blocked else r.nest }

/-- The lane after its link is lost, before its nest's token goes. -/
def State.laneCleared (s : State) (n : Lane) : State :=
  (lostHead n s (s.lanes.get n).lostOrigin).updLane n LaneRec.lost

theorem loseTaking_cleared :
    (loseTaking n s).updLane n LaneRec.lost = (lostHead n s (some .taking)).updLane n LaneRec.lost := by
  rw [loseTaking, lostHead, updLane_updLane, updLane_updLane]
  rfl

theorem colletLost_cleared : (colletLost n s).updLane n LaneRec.lost = s.laneCleared n := by
  unfold State.laneCleared colletLost
  rw [LaneRec.lostOrigin]
  cases collet : (s.lanes.get n).collet with
  | taking => exact loseTaking_cleared n s
  | aborting =>
    cases origin : (s.lanes.get n).abort with
    | none => simp only [lostHead, if_true, collet, reduceCtorEq, false_and, if_false]
    | some o =>
      cases o with
      | taking => exact loseTaking_cleared n s
      | _ => rfl
  | purging =>
    cases source : (s.lanes.get n).purge with
    | none => simp only [ColletState.origin, lostHead, collet, source, reduceCtorEq, and_false, if_false]
    | some p =>
      cases p with
      | nest => simp only [ColletState.origin, lostHead, collet, source, reduceCtorEq, and_false, if_false,
          Option.some.injEq]
      | collet =>
        simp only [ColletState.origin, lostHead, collet, source, reduceCtorEq, and_self, if_false, if_true]
  | idle => simp only [ColletState.origin, lostHead, collet, reduceCtorEq, false_and, if_false]
  | _ => rfl

theorem laneLost_eq : laneLost n s = nestLostDue n (s.laneCleared n) := by
  rw [← colletLost_cleared, laneLost]
  refine congrArg (fun f => nestLostDue n ((colletLost n s).updLane n f)) (funext fun r => ?_)
  cases nest : r.nest <;> simp only [LaneRec.lost, colletIdle, nest, reduceCtorEq, or_false, false_or, if_true, if_false]

theorem steered_laneCleared : Steered s (s.laneCleared n) := by
  rw [← colletLost_cleared]
  exact (steered_colletLost s n).trans (steered_updLane _ n fun _ => ⟨rfl, rfl⟩)

/-- With the link not UP, the cell alone decides whether the nest's token goes (R125). -/
theorem nestLostDue_of_down {x : State} (kept : Steered s x) (down : (s.links.get (bonderLink n)).state ≠ .up) :
    nestLostDue n x = if s.control.cell = .stopping then (x.tokenAt (.nest n)).elim x fun t =>
      (settleDie t .unknown (some n) none none .empty x).updLane n fun r => { r with nest := .blocked, settleTimer := none }
    else x := by
  have test : (x.control.cell = .stopping ∧ (x.links.get (bonderLink n)).state ≠ .up) ↔ s.control.cell = .stopping := by
    rw [kept.cell, (kept.standing _).1]
    exact and_iff_left down
  simp only [nestLostDue, test]
  cases x.tokenAt (.nest n) <;> rfl

end Lane

/-- Settles O52: reports that do not fit by the fit of each row, the fault by what its parts keep, and each owner's
disposition by the state it holds. -/
theorem faultsOfALink : Obligations.FaultsOfALink := by
  refine ⟨fun l s on => ?orders, fun s on => ?owners, fun s on => ?reports, fun l c s => ?fault, fun k ended s => ?tables,
    fun ended t s => ?picker, fun n ended s down => ?lanes⟩
  case orders =>
    refine ⟨fun n code k awaited => ?_, fun runs => ?_, fun off => ?_⟩
    · exact (live_on (f := stationErrorEvent l n code) on).trans
        (congrArg Host.Outcome.next (stationErrorEvent_of_awaits awaited code))
    · exact (live_on (f := watchdogExpiryEvent l) on).trans (congrArg Host.Outcome.next (watchdogExpiryEvent_running runs))
    · exact (live_on (f := watchdogExpiryEvent l) on).trans (congrArg Host.Outcome.next (watchdogExpiryEvent_off off))
  case owners =>
    refine ⟨fun k n awaited => ⟨picked_unfit on awaited, put_unfit on awaited, purgedOnPk_unfit on awaited⟩,
      fun m k n awaited => ⟨fun bad => ?_, fun bad => ?_, fun bad dx dy rot v => ?_, fun bad => ?_⟩⟩
    · exact taken_unfit on awaited (State.colletUnfit_bonderLink bad)
    · exact touched_unfit on awaited (State.colletUnfit_bonderLink bad)
    · exact bonded_unfit on awaited (.inl (State.colletUnfit_bonderLink bad))
    · exact purged_unfit_of_ne on (by cases m <;> nofun) awaited (State.colletUnfit_bonderLink bad)
  case reports =>
    refine ⟨fun l k n awaited => ⟨fun state id => waferIn_unfit on awaited, waferOut_unfit on awaited,
        stepped_unfit on awaited, fun other => picked_unfit on awaited (.inl other),
        fun other => put_unfit on awaited (.inl other), fun other => taken_unfit on awaited (.inl other),
        fun other => touched_unfit on awaited (.inl other), fun dx dy rot v bad => bonded_unfit on awaited (bad.imp .inl id),
        purged_unfit_of_kind on awaited, fun id code pitch count xouts => arrived_unfit on awaited,
        ejected_unfit on awaited⟩,
      fun m k n holds awaited => abortedTable_unfit on awaited, fun k n holds awaited => abortedPk_unfit on awaited,
      fun m k n holds awaited => abortedBonder_unfit on awaited, fun k n holds awaited => abortedIx_unfit on awaited⟩
  case fault =>
    obtain ⟨state, cause⟩ := linkFault_standing l c s
    refine ⟨state, cause, linkFault_detail l c s, fun apart => ?_, ?_, linkFault_holds l c s⟩
    · rw [linkFault_link l c s apart, faulted_link]
      exact ⟨rfl, rfl⟩
    · rw [linkFault_eq]
      cases l <;> rfl
  case tables =>
    intro flagged
    rw [ownerLost_tableLink]
    refine ⟨tableLost_of_empty k s ended, fun i moving slot => ?_, fun occupied => ⟨fun quiet => ?_, fun isEnded stepping =>
      ⟨fun t held => ?_, fun empty => ?_⟩⟩⟩
    · rw [tableLost_of_moving k s ended moving, slot]
      rfl
    · rw [tableLost_of_occupied k s ended occupied]
      rcases quiet with notEnded | other
      · rw [notEnded]
        rfl
      · rw [endStep_of_not_stepping (s := s.updTable k fun r => { r with faulted := true }) other, ite_self]
        rfl
    · rw [tableLost_of_occupied k s ended occupied, if_pos isEnded]
      exact endStep_with_token (s := flagged) stepping held
    · rw [tableLost_of_occupied k s ended occupied, if_pos isEnded]
      exact endStep_without_token (s := flagged) stepping empty
  case picker =>
    refine ⟨pickerLost_idle, pickerLost_stepping, pickerLost_stepping_alone, pickerLost_lifted, fun loading => ?_,
      fun ejecting => ?_, rfl⟩
    · simp only [ownerLost, stripOrderLost, loading, if_true]
    · simp only [ownerLost, stripOrderLost, ejecting, if_true]
  case lanes =>
    intro r die closed origin head nested
    have cleared : nested = s.laneCleared n := rfl
    rw [ownerLost_bonderLink, laneLost_eq, nestLostDue_of_down n s (steered_laneCleared n s) down, cleared]
    refine congrArg (fun x => if s.control.cell = .stopping then x else s.laneCleared n) ?_
    cases (s.laneCleared n).tokenAt (.nest n) <;> rfl

end Sys2Proof.Machine
